-- ==== Sys2Proof/Word.lean ====
section
/-! DEFINITION. The two word widths of the n6800 CORE: "width ∈ {8,16}" (10_state R20). Everything the
spec calls a register value, an address, an opcode or a flag vector is one of the two. -/

namespace Sys2Proof

/-- An 8-bit value: accumulators, flag vector, latches, one byte of memory. -/
abbrev Byte := BitVec 8

/-- A 16-bit value: `X`, `SP`, `PC`, `TMP16`, an address. -/
abbrev Word := BitVec 16

end Sys2Proof
end

