-- ==== Sys2Proof/Syntax.lean ====
section
/-! DEFINITION. The instructions of the n6800 CORE as syntax: one constructor per row of
spec/opcode_table.json (159 exact opcodes, and one default row for the 97 unrecognised bytes). A
constructor's suffix is its row's format (30_encoding R90): `Imm` IMM8, `Dir` DIR, `Idx` IDX, `Ext` EXT;
its argument is the operand of that format (R95), the two bytes of EXT already joined. -/

namespace Sys2Proof

/-- The operand forms of the ALU-read family (30_encoding R92). -/
inductive ReadOperand where
  | imm (ii : Byte)
  | dir (dd : Byte)
  | idx (ff : Byte)
  | ext (hhll : Word)
  deriving DecidableEq, Repr

/-- The operand forms of the store handler (45_store R290: no immediate form). -/
inductive StoreOperand where
  | dir (dd : Byte)
  | idx (ff : Byte)
  | ext (hhll : Word)
  deriving DecidableEq, Repr

/-- The memory operand forms of the read-modify-write family and of JMP (30_encoding R93). -/
inductive MemOperand where
  | idx (ff : Byte)
  | ext (hhll : Word)
  deriving DecidableEq, Repr

/-- The instruction formats (30_encoding R90). -/
inductive Format where
  | inh | imm8 | dir | idx | ext | rel
  deriving DecidableEq, Repr

/-- The instruction set: a constructor per row of spec/opcode_table.json, in the table's order. -/
inductive Instr where
  | nop
  | tap
  | tpa
  | inx
  | dex
  | clv
  | sev
  | clc
  | sec
  | cli
  | sei
  | bra (rr : Byte)
  | brn (rr : Byte)
  | bhi (rr : Byte)
  | bls (rr : Byte)
  | bcc (rr : Byte)
  | bcs (rr : Byte)
  | bne (rr : Byte)
  | beq (rr : Byte)
  | bvc (rr : Byte)
  | bvs (rr : Byte)
  | bpl (rr : Byte)
  | bmi (rr : Byte)
  | bge (rr : Byte)
  | blt (rr : Byte)
  | bgt (rr : Byte)
  | ble (rr : Byte)
  | nega
  | coma
  | lsra
  | rora
  | asra
  | asla
  | rola
  | deca
  | inca
  | tsta
  | clra
  | negb
  | comb
  | lsrb
  | rorb
  | asrb
  | aslb
  | rolb
  | decb
  | incb
  | tstb
  | clrb
  | negIdx (ff : Byte)
  | comIdx (ff : Byte)
  | lsrIdx (ff : Byte)
  | rorIdx (ff : Byte)
  | asrIdx (ff : Byte)
  | aslIdx (ff : Byte)
  | rolIdx (ff : Byte)
  | decIdx (ff : Byte)
  | incIdx (ff : Byte)
  | tstIdx (ff : Byte)
  | jmpIdx (ff : Byte)
  | clrIdx (ff : Byte)
  | negExt (hhll : Word)
  | comExt (hhll : Word)
  | lsrExt (hhll : Word)
  | rorExt (hhll : Word)
  | asrExt (hhll : Word)
  | aslExt (hhll : Word)
  | rolExt (hhll : Word)
  | decExt (hhll : Word)
  | incExt (hhll : Word)
  | tstExt (hhll : Word)
  | jmpExt (hhll : Word)
  | clrExt (hhll : Word)
  | subaImm (ii : Byte)
  | cmpaImm (ii : Byte)
  | sbcaImm (ii : Byte)
  | andaImm (ii : Byte)
  | bitaImm (ii : Byte)
  | ldaaImm (ii : Byte)
  | eoraImm (ii : Byte)
  | adcaImm (ii : Byte)
  | oraaImm (ii : Byte)
  | addaImm (ii : Byte)
  | subaDir (dd : Byte)
  | cmpaDir (dd : Byte)
  | sbcaDir (dd : Byte)
  | andaDir (dd : Byte)
  | bitaDir (dd : Byte)
  | ldaaDir (dd : Byte)
  | staaDir (dd : Byte)
  | eoraDir (dd : Byte)
  | adcaDir (dd : Byte)
  | oraaDir (dd : Byte)
  | addaDir (dd : Byte)
  | subaIdx (ff : Byte)
  | cmpaIdx (ff : Byte)
  | sbcaIdx (ff : Byte)
  | andaIdx (ff : Byte)
  | bitaIdx (ff : Byte)
  | ldaaIdx (ff : Byte)
  | staaIdx (ff : Byte)
  | eoraIdx (ff : Byte)
  | adcaIdx (ff : Byte)
  | oraaIdx (ff : Byte)
  | addaIdx (ff : Byte)
  | subaExt (hhll : Word)
  | cmpaExt (hhll : Word)
  | sbcaExt (hhll : Word)
  | andaExt (hhll : Word)
  | bitaExt (hhll : Word)
  | ldaaExt (hhll : Word)
  | staaExt (hhll : Word)
  | eoraExt (hhll : Word)
  | adcaExt (hhll : Word)
  | oraaExt (hhll : Word)
  | addaExt (hhll : Word)
  | subbImm (ii : Byte)
  | cmpbImm (ii : Byte)
  | sbcbImm (ii : Byte)
  | andbImm (ii : Byte)
  | bitbImm (ii : Byte)
  | ldabImm (ii : Byte)
  | eorbImm (ii : Byte)
  | adcbImm (ii : Byte)
  | orabImm (ii : Byte)
  | addbImm (ii : Byte)
  | subbDir (dd : Byte)
  | cmpbDir (dd : Byte)
  | sbcbDir (dd : Byte)
  | andbDir (dd : Byte)
  | bitbDir (dd : Byte)
  | ldabDir (dd : Byte)
  | stabDir (dd : Byte)
  | eorbDir (dd : Byte)
  | adcbDir (dd : Byte)
  | orabDir (dd : Byte)
  | addbDir (dd : Byte)
  | subbIdx (ff : Byte)
  | cmpbIdx (ff : Byte)
  | sbcbIdx (ff : Byte)
  | andbIdx (ff : Byte)
  | bitbIdx (ff : Byte)
  | ldabIdx (ff : Byte)
  | stabIdx (ff : Byte)
  | eorbIdx (ff : Byte)
  | adcbIdx (ff : Byte)
  | orabIdx (ff : Byte)
  | addbIdx (ff : Byte)
  | subbExt (hhll : Word)
  | cmpbExt (hhll : Word)
  | sbcbExt (hhll : Word)
  | andbExt (hhll : Word)
  | bitbExt (hhll : Word)
  | ldabExt (hhll : Word)
  | stabExt (hhll : Word)
  | eorbExt (hhll : Word)
  | adcbExt (hhll : Word)
  | orabExt (hhll : Word)
  | addbExt (hhll : Word)
  /-- The table's default row: a byte that matches no other row (30_encoding R99). -/
  | unrecognised (opcode : Byte)
  deriving DecidableEq, Repr

end Sys2Proof
end

