-- ==== Sys2Proof/WellFormed.lean ====
section
/-! DEFINITION. Which terms of `Instr` are instructions. The operand types already rule out the forms the
spec does not give (a store immediate, a jump inherent), so one check is left: `unrecognised` may hold
only a byte that no other row of the table claims (30_encoding R99). -/

namespace Sys2Proof

/-- The 97 unrecognised opcode bytes, as 30_encoding R99 lists them. -/
def unrecognisedOpcodes : List Byte :=
  [0x00, 0x02, 0x03, 0x04, 0x05] ++
  [0x10, 0x11, 0x12, 0x13, 0x14, 0x15, 0x16, 0x17, 0x18, 0x19, 0x1A, 0x1B, 0x1C, 0x1D, 0x1E, 0x1F] ++
  [0x30, 0x31, 0x32, 0x33, 0x34, 0x35, 0x36, 0x37, 0x38, 0x39, 0x3A, 0x3B, 0x3C, 0x3D, 0x3E, 0x3F] ++
  [0x41, 0x42, 0x45, 0x4B, 0x4E] ++ [0x51, 0x52, 0x55, 0x5B, 0x5E] ++
  [0x61, 0x62, 0x65, 0x6B] ++ [0x71, 0x72, 0x75, 0x7B] ++
  [0x83, 0x87, 0x8C, 0x8D, 0x8E, 0x8F] ++ [0x93, 0x9C, 0x9D, 0x9E, 0x9F] ++
  [0xA3, 0xAC, 0xAD, 0xAE, 0xAF] ++ [0xB3, 0xBC, 0xBD, 0xBE, 0xBF] ++
  [0xC3, 0xC7, 0xCC, 0xCD, 0xCE, 0xCF] ++ [0xD3, 0xDC, 0xDD, 0xDE, 0xDF] ++
  [0xE3, 0xEC, 0xED, 0xEE, 0xEF] ++ [0xF3, 0xFC, 0xFD, 0xFE, 0xFF]

/-- A term is well formed unless it calls a recognised opcode unrecognised. -/
def Instr.wf : Instr → Bool
  | .unrecognised opcode => unrecognisedOpcodes.contains opcode
  | _ => true

end Sys2Proof
end

