-- ==== Sys2Proof/Decode.lean ====
section
/-! DEFINITION. The decoder, total on any bytes, and after it the encoder. The opcode map is
30_encoding R102, a row of the map per definition; it is the 159 exact-match rows of
spec/opcode_table.json. The clock-level dispatcher (Machine/Clock.lean) uses the other form the spec
gives of the same thing, the mask and match table of R98; an obligation says the two agree. -/

namespace Sys2Proof

/-- `{hi, lo}`: the 16-bit value of two bytes in memory order, high byte first (20_memory R67). -/
def joinBytes (hi lo : Byte) : Word := BitVec.ofNat 16 (hi.toNat * 256 + lo.toNat)

/-- Bits 15:8. -/
def hiByte (w : Word) : Byte := BitVec.ofNat 8 (w.toNat / 256)

/-- Bits 7:0. -/
def loByte (w : Word) : Byte := BitVec.ofNat 8 w.toNat

/-- What an opcode byte alone says: the instruction, up to the operand bytes it still needs. -/
inductive OpcodeForm where
  | inherent (i : Instr)
  | oneByte (k : Byte → Instr)
  | twoBytes (k : Word → Instr)

/-- The instruction of an opcode followed by two bytes (a shorter one ignores what it does not need). -/
def OpcodeForm.build : OpcodeForm → Byte → Byte → Instr
  | .inherent i, _, _ => i
  | .oneByte k, b1, _ => k b1
  | .twoBytes k, b1, b2 => k (joinBytes b1 b2)

/-- Row 0x of the opcode map (30_encoding R102); `lo` is the low nibble. -/
def mapRow0 (op : Byte) (lo : Nat) : OpcodeForm :=
  match lo with
  | 0x1 => .inherent .nop
  | 0x6 => .inherent .tap
  | 0x7 => .inherent .tpa
  | 0x8 => .inherent .inx
  | 0x9 => .inherent .dex
  | 0xA => .inherent .clv
  | 0xB => .inherent .sev
  | 0xC => .inherent .clc
  | 0xD => .inherent .sec
  | 0xE => .inherent .cli
  | 0xF => .inherent .sei
  | _ => .inherent (.unrecognised op)

/-- Row 2x of the opcode map (30_encoding R102); `lo` is the low nibble. -/
def mapRow2 (lo : Nat) : OpcodeForm :=
  match lo with
  | 0x0 => .oneByte .bra
  | 0x1 => .oneByte .brn
  | 0x2 => .oneByte .bhi
  | 0x3 => .oneByte .bls
  | 0x4 => .oneByte .bcc
  | 0x5 => .oneByte .bcs
  | 0x6 => .oneByte .bne
  | 0x7 => .oneByte .beq
  | 0x8 => .oneByte .bvc
  | 0x9 => .oneByte .bvs
  | 0xA => .oneByte .bpl
  | 0xB => .oneByte .bmi
  | 0xC => .oneByte .bge
  | 0xD => .oneByte .blt
  | 0xE => .oneByte .bgt
  | _ => .oneByte .ble

/-- Row 4x of the opcode map (30_encoding R102); `lo` is the low nibble. -/
def mapRow4 (op : Byte) (lo : Nat) : OpcodeForm :=
  match lo with
  | 0x0 => .inherent .nega
  | 0x3 => .inherent .coma
  | 0x4 => .inherent .lsra
  | 0x6 => .inherent .rora
  | 0x7 => .inherent .asra
  | 0x8 => .inherent .asla
  | 0x9 => .inherent .rola
  | 0xA => .inherent .deca
  | 0xC => .inherent .inca
  | 0xD => .inherent .tsta
  | 0xF => .inherent .clra
  | _ => .inherent (.unrecognised op)

/-- Row 5x of the opcode map (30_encoding R102); `lo` is the low nibble. -/
def mapRow5 (op : Byte) (lo : Nat) : OpcodeForm :=
  match lo with
  | 0x0 => .inherent .negb
  | 0x3 => .inherent .comb
  | 0x4 => .inherent .lsrb
  | 0x6 => .inherent .rorb
  | 0x7 => .inherent .asrb
  | 0x8 => .inherent .aslb
  | 0x9 => .inherent .rolb
  | 0xA => .inherent .decb
  | 0xC => .inherent .incb
  | 0xD => .inherent .tstb
  | 0xF => .inherent .clrb
  | _ => .inherent (.unrecognised op)

/-- Row 6x of the opcode map (30_encoding R102); `lo` is the low nibble. -/
def mapRow6 (op : Byte) (lo : Nat) : OpcodeForm :=
  match lo with
  | 0x0 => .oneByte .negIdx
  | 0x3 => .oneByte .comIdx
  | 0x4 => .oneByte .lsrIdx
  | 0x6 => .oneByte .rorIdx
  | 0x7 => .oneByte .asrIdx
  | 0x8 => .oneByte .aslIdx
  | 0x9 => .oneByte .rolIdx
  | 0xA => .oneByte .decIdx
  | 0xC => .oneByte .incIdx
  | 0xD => .oneByte .tstIdx
  | 0xE => .oneByte .jmpIdx
  | 0xF => .oneByte .clrIdx
  | _ => .inherent (.unrecognised op)

/-- Row 7x of the opcode map (30_encoding R102); `lo` is the low nibble. -/
def mapRow7 (op : Byte) (lo : Nat) : OpcodeForm :=
  match lo with
  | 0x0 => .twoBytes .negExt
  | 0x3 => .twoBytes .comExt
  | 0x4 => .twoBytes .lsrExt
  | 0x6 => .twoBytes .rorExt
  | 0x7 => .twoBytes .asrExt
  | 0x8 => .twoBytes .aslExt
  | 0x9 => .twoBytes .rolExt
  | 0xA => .twoBytes .decExt
  | 0xC => .twoBytes .incExt
  | 0xD => .twoBytes .tstExt
  | 0xE => .twoBytes .jmpExt
  | 0xF => .twoBytes .clrExt
  | _ => .inherent (.unrecognised op)

/-- Row 8x of the opcode map (30_encoding R102); `lo` is the low nibble. -/
def mapRow8 (op : Byte) (lo : Nat) : OpcodeForm :=
  match lo with
  | 0x0 => .oneByte .subaImm
  | 0x1 => .oneByte .cmpaImm
  | 0x2 => .oneByte .sbcaImm
  | 0x4 => .oneByte .andaImm
  | 0x5 => .oneByte .bitaImm
  | 0x6 => .oneByte .ldaaImm
  | 0x8 => .oneByte .eoraImm
  | 0x9 => .oneByte .adcaImm
  | 0xA => .oneByte .oraaImm
  | 0xB => .oneByte .addaImm
  | _ => .inherent (.unrecognised op)

/-- Row 9x of the opcode map (30_encoding R102); `lo` is the low nibble. -/
def mapRow9 (op : Byte) (lo : Nat) : OpcodeForm :=
  match lo with
  | 0x0 => .oneByte .subaDir
  | 0x1 => .oneByte .cmpaDir
  | 0x2 => .oneByte .sbcaDir
  | 0x4 => .oneByte .andaDir
  | 0x5 => .oneByte .bitaDir
  | 0x6 => .oneByte .ldaaDir
  | 0x7 => .oneByte .staaDir
  | 0x8 => .oneByte .eoraDir
  | 0x9 => .oneByte .adcaDir
  | 0xA => .oneByte .oraaDir
  | 0xB => .oneByte .addaDir
  | _ => .inherent (.unrecognised op)

/-- Row Ax of the opcode map (30_encoding R102); `lo` is the low nibble. -/
def mapRowA (op : Byte) (lo : Nat) : OpcodeForm :=
  match lo with
  | 0x0 => .oneByte .subaIdx
  | 0x1 => .oneByte .cmpaIdx
  | 0x2 => .oneByte .sbcaIdx
  | 0x4 => .oneByte .andaIdx
  | 0x5 => .oneByte .bitaIdx
  | 0x6 => .oneByte .ldaaIdx
  | 0x7 => .oneByte .staaIdx
  | 0x8 => .oneByte .eoraIdx
  | 0x9 => .oneByte .adcaIdx
  | 0xA => .oneByte .oraaIdx
  | 0xB => .oneByte .addaIdx
  | _ => .inherent (.unrecognised op)

/-- Row Bx of the opcode map (30_encoding R102); `lo` is the low nibble. -/
def mapRowB (op : Byte) (lo : Nat) : OpcodeForm :=
  match lo with
  | 0x0 => .twoBytes .subaExt
  | 0x1 => .twoBytes .cmpaExt
  | 0x2 => .twoBytes .sbcaExt
  | 0x4 => .twoBytes .andaExt
  | 0x5 => .twoBytes .bitaExt
  | 0x6 => .twoBytes .ldaaExt
  | 0x7 => .twoBytes .staaExt
  | 0x8 => .twoBytes .eoraExt
  | 0x9 => .twoBytes .adcaExt
  | 0xA => .twoBytes .oraaExt
  | 0xB => .twoBytes .addaExt
  | _ => .inherent (.unrecognised op)

/-- Row Cx of the opcode map (30_encoding R102); `lo` is the low nibble. -/
def mapRowC (op : Byte) (lo : Nat) : OpcodeForm :=
  match lo with
  | 0x0 => .oneByte .subbImm
  | 0x1 => .oneByte .cmpbImm
  | 0x2 => .oneByte .sbcbImm
  | 0x4 => .oneByte .andbImm
  | 0x5 => .oneByte .bitbImm
  | 0x6 => .oneByte .ldabImm
  | 0x8 => .oneByte .eorbImm
  | 0x9 => .oneByte .adcbImm
  | 0xA => .oneByte .orabImm
  | 0xB => .oneByte .addbImm
  | _ => .inherent (.unrecognised op)

/-- Row Dx of the opcode map (30_encoding R102); `lo` is the low nibble. -/
def mapRowD (op : Byte) (lo : Nat) : OpcodeForm :=
  match lo with
  | 0x0 => .oneByte .subbDir
  | 0x1 => .oneByte .cmpbDir
  | 0x2 => .oneByte .sbcbDir
  | 0x4 => .oneByte .andbDir
  | 0x5 => .oneByte .bitbDir
  | 0x6 => .oneByte .ldabDir
  | 0x7 => .oneByte .stabDir
  | 0x8 => .oneByte .eorbDir
  | 0x9 => .oneByte .adcbDir
  | 0xA => .oneByte .orabDir
  | 0xB => .oneByte .addbDir
  | _ => .inherent (.unrecognised op)

/-- Row Ex of the opcode map (30_encoding R102); `lo` is the low nibble. -/
def mapRowE (op : Byte) (lo : Nat) : OpcodeForm :=
  match lo with
  | 0x0 => .oneByte .subbIdx
  | 0x1 => .oneByte .cmpbIdx
  | 0x2 => .oneByte .sbcbIdx
  | 0x4 => .oneByte .andbIdx
  | 0x5 => .oneByte .bitbIdx
  | 0x6 => .oneByte .ldabIdx
  | 0x7 => .oneByte .stabIdx
  | 0x8 => .oneByte .eorbIdx
  | 0x9 => .oneByte .adcbIdx
  | 0xA => .oneByte .orabIdx
  | 0xB => .oneByte .addbIdx
  | _ => .inherent (.unrecognised op)

/-- Row Fx of the opcode map (30_encoding R102); `lo` is the low nibble. -/
def mapRowF (op : Byte) (lo : Nat) : OpcodeForm :=
  match lo with
  | 0x0 => .twoBytes .subbExt
  | 0x1 => .twoBytes .cmpbExt
  | 0x2 => .twoBytes .sbcbExt
  | 0x4 => .twoBytes .andbExt
  | 0x5 => .twoBytes .bitbExt
  | 0x6 => .twoBytes .ldabExt
  | 0x7 => .twoBytes .stabExt
  | 0x8 => .twoBytes .eorbExt
  | 0x9 => .twoBytes .adcbExt
  | 0xA => .twoBytes .orabExt
  | 0xB => .twoBytes .addbExt
  | _ => .inherent (.unrecognised op)

/-- The opcode map: the high nibble picks the row; rows 1x and 3x hold nothing (30_encoding R99, R102). -/
def opcodeForm (op : Byte) : OpcodeForm :=
  let lo := (op.extractLsb' 0 4).toNat
  match (op.extractLsb' 4 4).toNat with
  | 0x0 => mapRow0 op lo
  | 0x2 => mapRow2 lo
  | 0x4 => mapRow4 op lo
  | 0x5 => mapRow5 op lo
  | 0x6 => mapRow6 op lo
  | 0x7 => mapRow7 op lo
  | 0x8 => mapRow8 op lo
  | 0x9 => mapRow9 op lo
  | 0xA => mapRowA op lo
  | 0xB => mapRowB op lo
  | 0xC => mapRowC op lo
  | 0xD => mapRowD op lo
  | 0xE => mapRowE op lo
  | 0xF => mapRowF op lo
  | _ => .inherent (.unrecognised op)

/-- The instruction of three consecutive bytes of the instruction stream (30_encoding R101: the opcode
byte alone decides; every triple decodes). -/
def decodeTriple (b0 b1 b2 : Byte) : Instr := (opcodeForm b0).build b1 b2

/-- Why a list of bytes is no instruction: only for want of bytes (30_encoding R101). -/
inductive DecodeError where
  /-- The list is empty. -/
  | missingOpcode
  /-- The opcode's operand bytes are not all there. -/
  | missingOperand
  deriving DecidableEq, Repr

/-- Read one instruction off the front of a byte string: the instruction and the bytes after it. -/
def decode : List Byte → Except DecodeError (Instr × List Byte)
  | [] => .error .missingOpcode
  | op :: rest =>
    match opcodeForm op, rest with
    | .inherent i, rest => .ok (i, rest)
    | .oneByte k, b :: rest => .ok (k b, rest)
    | .twoBytes k, hi :: lo :: rest => .ok (k (joinBytes hi lo), rest)
    | .oneByte _, [] => .error .missingOperand
    | .twoBytes _, _ => .error .missingOperand

/-- Byte `k` of a table word: bits `8k+7 : 8k`, those from `nbits` up being 0. -/
def tableByte (nbits w k : Nat) : Byte := BitVec.ofNat 8 ((w % 2 ^ nbits) / 2 ^ (8 * k))

/-- The bytes of a table word as they lie in memory: bits 7:0 at the lowest address. -/
def tableBytes (nbits w : Nat) : List Byte := [tableByte nbits w 0, tableByte nbits w 1, tableByte nbits w 2]

/-- The host's view of the decoder: the instruction read from a word of the opcode table. -/
def decodeTableWord (nbits w : Nat) : Option Instr :=
  match decode (tableBytes nbits w) with
  | .ok (i, _) => some i
  | .error _ => none

/-! ## The encoder -/

/-- The bytes of an instruction in memory order (30_encoding R90: opcode, then the operand bytes at
ascending addresses; `EXT` high byte first). -/
def encode : Instr → List Byte
  | .nop => [0x01]
  | .tap => [0x06]
  | .tpa => [0x07]
  | .inx => [0x08]
  | .dex => [0x09]
  | .clv => [0x0A]
  | .sev => [0x0B]
  | .clc => [0x0C]
  | .sec => [0x0D]
  | .cli => [0x0E]
  | .sei => [0x0F]
  | .bra rr => [0x20, rr]
  | .brn rr => [0x21, rr]
  | .bhi rr => [0x22, rr]
  | .bls rr => [0x23, rr]
  | .bcc rr => [0x24, rr]
  | .bcs rr => [0x25, rr]
  | .bne rr => [0x26, rr]
  | .beq rr => [0x27, rr]
  | .bvc rr => [0x28, rr]
  | .bvs rr => [0x29, rr]
  | .bpl rr => [0x2A, rr]
  | .bmi rr => [0x2B, rr]
  | .bge rr => [0x2C, rr]
  | .blt rr => [0x2D, rr]
  | .bgt rr => [0x2E, rr]
  | .ble rr => [0x2F, rr]
  | .nega => [0x40]
  | .coma => [0x43]
  | .lsra => [0x44]
  | .rora => [0x46]
  | .asra => [0x47]
  | .asla => [0x48]
  | .rola => [0x49]
  | .deca => [0x4A]
  | .inca => [0x4C]
  | .tsta => [0x4D]
  | .clra => [0x4F]
  | .negb => [0x50]
  | .comb => [0x53]
  | .lsrb => [0x54]
  | .rorb => [0x56]
  | .asrb => [0x57]
  | .aslb => [0x58]
  | .rolb => [0x59]
  | .decb => [0x5A]
  | .incb => [0x5C]
  | .tstb => [0x5D]
  | .clrb => [0x5F]
  | .negIdx ff => [0x60, ff]
  | .comIdx ff => [0x63, ff]
  | .lsrIdx ff => [0x64, ff]
  | .rorIdx ff => [0x66, ff]
  | .asrIdx ff => [0x67, ff]
  | .aslIdx ff => [0x68, ff]
  | .rolIdx ff => [0x69, ff]
  | .decIdx ff => [0x6A, ff]
  | .incIdx ff => [0x6C, ff]
  | .tstIdx ff => [0x6D, ff]
  | .jmpIdx ff => [0x6E, ff]
  | .clrIdx ff => [0x6F, ff]
  | .negExt hhll => [0x70, hiByte hhll, loByte hhll]
  | .comExt hhll => [0x73, hiByte hhll, loByte hhll]
  | .lsrExt hhll => [0x74, hiByte hhll, loByte hhll]
  | .rorExt hhll => [0x76, hiByte hhll, loByte hhll]
  | .asrExt hhll => [0x77, hiByte hhll, loByte hhll]
  | .aslExt hhll => [0x78, hiByte hhll, loByte hhll]
  | .rolExt hhll => [0x79, hiByte hhll, loByte hhll]
  | .decExt hhll => [0x7A, hiByte hhll, loByte hhll]
  | .incExt hhll => [0x7C, hiByte hhll, loByte hhll]
  | .tstExt hhll => [0x7D, hiByte hhll, loByte hhll]
  | .jmpExt hhll => [0x7E, hiByte hhll, loByte hhll]
  | .clrExt hhll => [0x7F, hiByte hhll, loByte hhll]
  | .subaImm ii => [0x80, ii]
  | .cmpaImm ii => [0x81, ii]
  | .sbcaImm ii => [0x82, ii]
  | .andaImm ii => [0x84, ii]
  | .bitaImm ii => [0x85, ii]
  | .ldaaImm ii => [0x86, ii]
  | .eoraImm ii => [0x88, ii]
  | .adcaImm ii => [0x89, ii]
  | .oraaImm ii => [0x8A, ii]
  | .addaImm ii => [0x8B, ii]
  | .subaDir dd => [0x90, dd]
  | .cmpaDir dd => [0x91, dd]
  | .sbcaDir dd => [0x92, dd]
  | .andaDir dd => [0x94, dd]
  | .bitaDir dd => [0x95, dd]
  | .ldaaDir dd => [0x96, dd]
  | .staaDir dd => [0x97, dd]
  | .eoraDir dd => [0x98, dd]
  | .adcaDir dd => [0x99, dd]
  | .oraaDir dd => [0x9A, dd]
  | .addaDir dd => [0x9B, dd]
  | .subaIdx ff => [0xA0, ff]
  | .cmpaIdx ff => [0xA1, ff]
  | .sbcaIdx ff => [0xA2, ff]
  | .andaIdx ff => [0xA4, ff]
  | .bitaIdx ff => [0xA5, ff]
  | .ldaaIdx ff => [0xA6, ff]
  | .staaIdx ff => [0xA7, ff]
  | .eoraIdx ff => [0xA8, ff]
  | .adcaIdx ff => [0xA9, ff]
  | .oraaIdx ff => [0xAA, ff]
  | .addaIdx ff => [0xAB, ff]
  | .subaExt hhll => [0xB0, hiByte hhll, loByte hhll]
  | .cmpaExt hhll => [0xB1, hiByte hhll, loByte hhll]
  | .sbcaExt hhll => [0xB2, hiByte hhll, loByte hhll]
  | .andaExt hhll => [0xB4, hiByte hhll, loByte hhll]
  | .bitaExt hhll => [0xB5, hiByte hhll, loByte hhll]
  | .ldaaExt hhll => [0xB6, hiByte hhll, loByte hhll]
  | .staaExt hhll => [0xB7, hiByte hhll, loByte hhll]
  | .eoraExt hhll => [0xB8, hiByte hhll, loByte hhll]
  | .adcaExt hhll => [0xB9, hiByte hhll, loByte hhll]
  | .oraaExt hhll => [0xBA, hiByte hhll, loByte hhll]
  | .addaExt hhll => [0xBB, hiByte hhll, loByte hhll]
  | .subbImm ii => [0xC0, ii]
  | .cmpbImm ii => [0xC1, ii]
  | .sbcbImm ii => [0xC2, ii]
  | .andbImm ii => [0xC4, ii]
  | .bitbImm ii => [0xC5, ii]
  | .ldabImm ii => [0xC6, ii]
  | .eorbImm ii => [0xC8, ii]
  | .adcbImm ii => [0xC9, ii]
  | .orabImm ii => [0xCA, ii]
  | .addbImm ii => [0xCB, ii]
  | .subbDir dd => [0xD0, dd]
  | .cmpbDir dd => [0xD1, dd]
  | .sbcbDir dd => [0xD2, dd]
  | .andbDir dd => [0xD4, dd]
  | .bitbDir dd => [0xD5, dd]
  | .ldabDir dd => [0xD6, dd]
  | .stabDir dd => [0xD7, dd]
  | .eorbDir dd => [0xD8, dd]
  | .adcbDir dd => [0xD9, dd]
  | .orabDir dd => [0xDA, dd]
  | .addbDir dd => [0xDB, dd]
  | .subbIdx ff => [0xE0, ff]
  | .cmpbIdx ff => [0xE1, ff]
  | .sbcbIdx ff => [0xE2, ff]
  | .andbIdx ff => [0xE4, ff]
  | .bitbIdx ff => [0xE5, ff]
  | .ldabIdx ff => [0xE6, ff]
  | .stabIdx ff => [0xE7, ff]
  | .eorbIdx ff => [0xE8, ff]
  | .adcbIdx ff => [0xE9, ff]
  | .orabIdx ff => [0xEA, ff]
  | .addbIdx ff => [0xEB, ff]
  | .subbExt hhll => [0xF0, hiByte hhll, loByte hhll]
  | .cmpbExt hhll => [0xF1, hiByte hhll, loByte hhll]
  | .sbcbExt hhll => [0xF2, hiByte hhll, loByte hhll]
  | .andbExt hhll => [0xF4, hiByte hhll, loByte hhll]
  | .bitbExt hhll => [0xF5, hiByte hhll, loByte hhll]
  | .ldabExt hhll => [0xF6, hiByte hhll, loByte hhll]
  | .stabExt hhll => [0xF7, hiByte hhll, loByte hhll]
  | .eorbExt hhll => [0xF8, hiByte hhll, loByte hhll]
  | .adcbExt hhll => [0xF9, hiByte hhll, loByte hhll]
  | .orabExt hhll => [0xFA, hiByte hhll, loByte hhll]
  | .addbExt hhll => [0xFB, hiByte hhll, loByte hhll]
  | .unrecognised op => [op]

/-! ## Formats, lengths, and an instruction by its mnemonic and operand -/

/-- The format of an instruction (30_encoding R90). -/
def Instr.format : Instr → Format
  | .nop | .tap | .tpa | .inx | .dex | .clv | .sev | .clc | .sec | .cli | .sei | .nega | .coma
  | .lsra | .rora | .asra | .asla | .rola | .deca | .inca | .tsta | .clra | .negb | .comb | .lsrb
  | .rorb | .asrb | .aslb | .rolb | .decb | .incb | .tstb | .clrb
  | .unrecognised _ => .inh
  | .subaImm _ | .cmpaImm _ | .sbcaImm _ | .andaImm _ | .bitaImm _ | .ldaaImm _ | .eoraImm _
  | .adcaImm _ | .oraaImm _ | .addaImm _ | .subbImm _ | .cmpbImm _ | .sbcbImm _ | .andbImm _
  | .bitbImm _ | .ldabImm _ | .eorbImm _ | .adcbImm _ | .orabImm _ | .addbImm _ => .imm8
  | .subaDir _ | .cmpaDir _ | .sbcaDir _ | .andaDir _ | .bitaDir _ | .ldaaDir _ | .staaDir _
  | .eoraDir _ | .adcaDir _ | .oraaDir _ | .addaDir _ | .subbDir _ | .cmpbDir _ | .sbcbDir _
  | .andbDir _ | .bitbDir _ | .ldabDir _ | .stabDir _ | .eorbDir _ | .adcbDir _ | .orabDir _
  | .addbDir _ => .dir
  | .negIdx _ | .comIdx _ | .lsrIdx _ | .rorIdx _ | .asrIdx _ | .aslIdx _ | .rolIdx _ | .decIdx _
  | .incIdx _ | .tstIdx _ | .jmpIdx _ | .clrIdx _ | .subaIdx _ | .cmpaIdx _ | .sbcaIdx _
  | .andaIdx _ | .bitaIdx _ | .ldaaIdx _ | .staaIdx _ | .eoraIdx _ | .adcaIdx _ | .oraaIdx _
  | .addaIdx _ | .subbIdx _ | .cmpbIdx _ | .sbcbIdx _ | .andbIdx _ | .bitbIdx _ | .ldabIdx _
  | .stabIdx _ | .eorbIdx _ | .adcbIdx _ | .orabIdx _ | .addbIdx _ => .idx
  | .negExt _ | .comExt _ | .lsrExt _ | .rorExt _ | .asrExt _ | .aslExt _ | .rolExt _ | .decExt _
  | .incExt _ | .tstExt _ | .jmpExt _ | .clrExt _ | .subaExt _ | .cmpaExt _ | .sbcaExt _
  | .andaExt _ | .bitaExt _ | .ldaaExt _ | .staaExt _ | .eoraExt _ | .adcaExt _ | .oraaExt _
  | .addaExt _ | .subbExt _ | .cmpbExt _ | .sbcbExt _ | .andbExt _ | .bitbExt _ | .ldabExt _
  | .stabExt _ | .eorbExt _ | .adcbExt _ | .orabExt _ | .addbExt _ => .ext
  | .bra _ | .brn _ | .bhi _ | .bls _ | .bcc _ | .bcs _ | .bne _ | .beq _ | .bvc _ | .bvs _ | .bpl _
  | .bmi _ | .bge _ | .blt _ | .bgt _ | .ble _ => .rel

/-- The length of a format in bytes (30_encoding R90, R101). -/
def Format.length : Format → Nat
  | .inh => 1
  | .imm8 | .dir | .idx | .rel => 2
  | .ext => 3

/-- The length of an instruction in bytes (30_encoding R101). -/
def Instr.length (i : Instr) : Nat := i.format.length

/-- NEG with its operand (30_encoding R103). -/
def Instr.neg : MemOperand → Instr
  | .idx ff => .negIdx ff
  | .ext hhll => .negExt hhll

/-- COM with its operand (30_encoding R103). -/
def Instr.com : MemOperand → Instr
  | .idx ff => .comIdx ff
  | .ext hhll => .comExt hhll

/-- LSR with its operand (30_encoding R103). -/
def Instr.lsr : MemOperand → Instr
  | .idx ff => .lsrIdx ff
  | .ext hhll => .lsrExt hhll

/-- ROR with its operand (30_encoding R103). -/
def Instr.ror : MemOperand → Instr
  | .idx ff => .rorIdx ff
  | .ext hhll => .rorExt hhll

/-- ASR with its operand (30_encoding R103). -/
def Instr.asr : MemOperand → Instr
  | .idx ff => .asrIdx ff
  | .ext hhll => .asrExt hhll

/-- ASL with its operand (30_encoding R103). -/
def Instr.asl : MemOperand → Instr
  | .idx ff => .aslIdx ff
  | .ext hhll => .aslExt hhll

/-- ROL with its operand (30_encoding R103). -/
def Instr.rol : MemOperand → Instr
  | .idx ff => .rolIdx ff
  | .ext hhll => .rolExt hhll

/-- DEC with its operand (30_encoding R103). -/
def Instr.dec : MemOperand → Instr
  | .idx ff => .decIdx ff
  | .ext hhll => .decExt hhll

/-- INC with its operand (30_encoding R103). -/
def Instr.inc : MemOperand → Instr
  | .idx ff => .incIdx ff
  | .ext hhll => .incExt hhll

/-- TST with its operand (30_encoding R103). -/
def Instr.tst : MemOperand → Instr
  | .idx ff => .tstIdx ff
  | .ext hhll => .tstExt hhll

/-- JMP with its operand (30_encoding R103). -/
def Instr.jmp : MemOperand → Instr
  | .idx ff => .jmpIdx ff
  | .ext hhll => .jmpExt hhll

/-- CLR with its operand (30_encoding R103). -/
def Instr.clr : MemOperand → Instr
  | .idx ff => .clrIdx ff
  | .ext hhll => .clrExt hhll

/-- SUBA with its operand (30_encoding R103). -/
def Instr.suba : ReadOperand → Instr
  | .imm ii => .subaImm ii
  | .dir dd => .subaDir dd
  | .idx ff => .subaIdx ff
  | .ext hhll => .subaExt hhll

/-- CMPA with its operand (30_encoding R103). -/
def Instr.cmpa : ReadOperand → Instr
  | .imm ii => .cmpaImm ii
  | .dir dd => .cmpaDir dd
  | .idx ff => .cmpaIdx ff
  | .ext hhll => .cmpaExt hhll

/-- SBCA with its operand (30_encoding R103). -/
def Instr.sbca : ReadOperand → Instr
  | .imm ii => .sbcaImm ii
  | .dir dd => .sbcaDir dd
  | .idx ff => .sbcaIdx ff
  | .ext hhll => .sbcaExt hhll

/-- ANDA with its operand (30_encoding R103). -/
def Instr.anda : ReadOperand → Instr
  | .imm ii => .andaImm ii
  | .dir dd => .andaDir dd
  | .idx ff => .andaIdx ff
  | .ext hhll => .andaExt hhll

/-- BITA with its operand (30_encoding R103). -/
def Instr.bita : ReadOperand → Instr
  | .imm ii => .bitaImm ii
  | .dir dd => .bitaDir dd
  | .idx ff => .bitaIdx ff
  | .ext hhll => .bitaExt hhll

/-- LDAA with its operand (30_encoding R103). -/
def Instr.ldaa : ReadOperand → Instr
  | .imm ii => .ldaaImm ii
  | .dir dd => .ldaaDir dd
  | .idx ff => .ldaaIdx ff
  | .ext hhll => .ldaaExt hhll

/-- EORA with its operand (30_encoding R103). -/
def Instr.eora : ReadOperand → Instr
  | .imm ii => .eoraImm ii
  | .dir dd => .eoraDir dd
  | .idx ff => .eoraIdx ff
  | .ext hhll => .eoraExt hhll

/-- ADCA with its operand (30_encoding R103). -/
def Instr.adca : ReadOperand → Instr
  | .imm ii => .adcaImm ii
  | .dir dd => .adcaDir dd
  | .idx ff => .adcaIdx ff
  | .ext hhll => .adcaExt hhll

/-- ORAA with its operand (30_encoding R103). -/
def Instr.oraa : ReadOperand → Instr
  | .imm ii => .oraaImm ii
  | .dir dd => .oraaDir dd
  | .idx ff => .oraaIdx ff
  | .ext hhll => .oraaExt hhll

/-- ADDA with its operand (30_encoding R103). -/
def Instr.adda : ReadOperand → Instr
  | .imm ii => .addaImm ii
  | .dir dd => .addaDir dd
  | .idx ff => .addaIdx ff
  | .ext hhll => .addaExt hhll

/-- STAA with its operand (30_encoding R103). -/
def Instr.staa : StoreOperand → Instr
  | .dir dd => .staaDir dd
  | .idx ff => .staaIdx ff
  | .ext hhll => .staaExt hhll

/-- SUBB with its operand (30_encoding R103). -/
def Instr.subb : ReadOperand → Instr
  | .imm ii => .subbImm ii
  | .dir dd => .subbDir dd
  | .idx ff => .subbIdx ff
  | .ext hhll => .subbExt hhll

/-- CMPB with its operand (30_encoding R103). -/
def Instr.cmpb : ReadOperand → Instr
  | .imm ii => .cmpbImm ii
  | .dir dd => .cmpbDir dd
  | .idx ff => .cmpbIdx ff
  | .ext hhll => .cmpbExt hhll

/-- SBCB with its operand (30_encoding R103). -/
def Instr.sbcb : ReadOperand → Instr
  | .imm ii => .sbcbImm ii
  | .dir dd => .sbcbDir dd
  | .idx ff => .sbcbIdx ff
  | .ext hhll => .sbcbExt hhll

/-- ANDB with its operand (30_encoding R103). -/
def Instr.andb : ReadOperand → Instr
  | .imm ii => .andbImm ii
  | .dir dd => .andbDir dd
  | .idx ff => .andbIdx ff
  | .ext hhll => .andbExt hhll

/-- BITB with its operand (30_encoding R103). -/
def Instr.bitb : ReadOperand → Instr
  | .imm ii => .bitbImm ii
  | .dir dd => .bitbDir dd
  | .idx ff => .bitbIdx ff
  | .ext hhll => .bitbExt hhll

/-- LDAB with its operand (30_encoding R103). -/
def Instr.ldab : ReadOperand → Instr
  | .imm ii => .ldabImm ii
  | .dir dd => .ldabDir dd
  | .idx ff => .ldabIdx ff
  | .ext hhll => .ldabExt hhll

/-- EORB with its operand (30_encoding R103). -/
def Instr.eorb : ReadOperand → Instr
  | .imm ii => .eorbImm ii
  | .dir dd => .eorbDir dd
  | .idx ff => .eorbIdx ff
  | .ext hhll => .eorbExt hhll

/-- ADCB with its operand (30_encoding R103). -/
def Instr.adcb : ReadOperand → Instr
  | .imm ii => .adcbImm ii
  | .dir dd => .adcbDir dd
  | .idx ff => .adcbIdx ff
  | .ext hhll => .adcbExt hhll

/-- ORAB with its operand (30_encoding R103). -/
def Instr.orab : ReadOperand → Instr
  | .imm ii => .orabImm ii
  | .dir dd => .orabDir dd
  | .idx ff => .orabIdx ff
  | .ext hhll => .orabExt hhll

/-- ADDB with its operand (30_encoding R103). -/
def Instr.addb : ReadOperand → Instr
  | .imm ii => .addbImm ii
  | .dir dd => .addbDir dd
  | .idx ff => .addbIdx ff
  | .ext hhll => .addbExt hhll

/-- STAB with its operand (30_encoding R103). -/
def Instr.stab : StoreOperand → Instr
  | .dir dd => .stabDir dd
  | .idx ff => .stabIdx ff
  | .ext hhll => .stabExt hhll

end Sys2Proof
end

