-- ==== Sys2Proof/Config.lean ====
section
/-! DEFINITION. What one machine fixes and the spec leaves open: the OPEN parameters of 92_eei_decisions
and the free values. The parameter `ALU` is a function and stands with its contract in Machine/Flags.lean
(`machineAlu`). -/

namespace Sys2Proof

/-- The register contents that no rule gives after a reset edge (10_state R41: "unspecified"; "a free
input of the launch (a draw)"). -/
structure Launch where
  a : Byte
  b : Byte
  x : Word
  sp : Word
  pc : Word
  instr : Byte
  tmp8 : Byte
  tmp16 : Word
  addr : Word
  dout : Byte
  deriving DecidableEq, Repr, Inhabited

/-- `CCS_RESET` (10_state R41, OPEN). PRESUMED 0xD0, the value the spec recommends from the MC6800: `I` and
the two reserved bits set (log 3). Unsafe. -/
def Config.ccsReset : Byte := 0xD0

/-- The values `State.reset` holds where the spec gives none. DESIGN CHOICE (log 4): one value a register,
none of them zero (10_state R41: "it must not pick zero"), no two registers of a width alike. Unsafe. -/
def Config.launch : Launch where
  a := 0xA5
  b := 0x5B
  x := 0xA51C
  sp := 0xA52D
  pc := 0xA53E
  instr := 0xA6
  tmp8 := 0xA7
  tmp16 := 0xA54F
  addr := 0xA560
  dout := 0xA8

/-- The register contents a reset edge during a run leaves where the spec gives none: free values, a fresh
draw an edge (log 5). Safe: nothing constrains them. -/
opaque Config.resetDraw : Nat → Launch

/-- What the memory drives on `Din` in a period with `RW = 0` (20_memory R62, 93 U9: "may drive anything"),
a free value of the period's address (log 8). Safe: no run from the boundary invariant reads it. -/
opaque Config.dinWhileWriting : Word → Byte

/-- What a byte of memory that nothing has written reads as (`MEM_INIT`, 20_memory R70, OPEN). DESIGN
CHOICE 0x00 (log 6). Unsafe. -/
def Config.memFill : Byte := 0x00

end Sys2Proof
end

