-- ==== Sys2Proof/Machine/State.lean ====
section
/-! DEFINITION. The state of the core and its memory as plain data (10_state R20, R31, R35 to R37, R40;
20_memory R60), the ways a step can stop, and the state after reset (10_state R41). -/

namespace Sys2Proof.Machine

/-- The external memory: (address, byte) pairs, addresses strictly rising, none of them holding what an
unlisted address reads as (`Memory.wf`, Machine/Ops.lean). -/
abbrev Memory := List Host.Cell

structure State where
  /-- Accumulator A (10_state R21). -/
  a : Byte
  /-- Accumulator B (10_state R21). -/
  b : Byte
  /-- Index register (10_state R22). -/
  x : Word
  /-- Stack pointer; no rule reads or writes it (10_state R23). -/
  sp : Word
  /-- Program counter (10_state R24). -/
  pc : Word
  /-- Instruction latch (10_state R25). -/
  instr : Byte
  /-- 8-bit scratch (10_state R26). -/
  tmp8 : Byte
  /-- 16-bit scratch (10_state R27). -/
  tmp16 : Word
  /-- Flag vector, `1 1 H I N Z V C` from bit 7 down (10_state R31). -/
  ccs : Byte
  /-- Cycle counter (10_state R35). -/
  cycle : BitVec 4
  /-- Reset-sequencer state; 3 is normal operation (10_state R36). -/
  rst : BitVec 2
  /-- Address latch (10_state R37). -/
  addr : Word
  /-- Data-out latch (10_state R37). -/
  dout : Byte
  /-- Direction: true is read (10_state R37). -/
  rw : Bool
  /-- Valid-address flag; false is a dead cycle (10_state R37). -/
  vma : Bool
  /-- The memory on the bus (20_memory R60, R62, R63). -/
  mem : Memory
  /-- The MODEL's own: the levels of the `rst` input (10_state R42) at the coming clock edges, soonest
  first; when it is empty the input stays low (log 2). -/
  rstIn : List Bool
  /-- The MODEL's own: how many edges with `rst = 1` there have been, the counter of
  `Config.resetDraw` (log 5). -/
  draws : Nat
  deriving DecidableEq, Repr

/-- A fault of the machine. There is none: "There is no exception/fault model." (60_exceptions R340, R342;
log 20). Safe: the spec gives every period a successor. -/
inductive Fault where
  deriving DecidableEq, Repr

/-- Why the model gives no next state. -/
inductive Refusal where
  /-- Raised by an arm of `exec` whose instruction has no meaning yet; no arm of this model. Safe. -/
  | notModelled (mnemonic : String)
  /-- Raised by `State.writeReg` when asked to write `DIN`, which is tagged read-only (10_state R30:
  "refusal, not a fault: no instruction can cause it"). Safe. -/
  | readOnlyRegister
  deriving DecidableEq, Repr

/-- The state at the first period after a reset edge, for the register contents `l` that the spec leaves
unspecified (10_state R41): `RST = 0`, `CYCLE = 0`, `RW = 1`, `VMA = 0`, `CCS = CCS_RESET`. The memory is not
reset (70 R366). -/
def State.atReset (l : Launch) (mem : Memory) (rstIn : List Bool) (draws : Nat) : State where
  a := l.a
  b := l.b
  x := l.x
  sp := l.sp
  pc := l.pc
  instr := l.instr
  tmp8 := l.tmp8
  tmp16 := l.tmp16
  ccs := Config.ccsReset
  cycle := 0
  rst := 0
  addr := l.addr
  dout := l.dout
  rw := true
  vma := false
  mem := mem
  rstIn := rstIn
  draws := draws

/-- The machine right after reset: the reset pulse is over, nothing is listed in memory, and the registers
the spec gives no value hold the values `Config.launch` names (10_state R41; log 3, 4, 6). -/
def State.reset : State := State.atReset Config.launch [] [] 0

end Sys2Proof.Machine
end

