-- ==== Sys2Proof/Machine/Ops.lean ====
section
/-! DEFINITION. The named operations over memory, the register file and the bus latches that every
handler shares: reading and writing a byte, the per-period defaults, end-of-instruction, the bytes at the
program counter. This hardware has no exception (60_exceptions R340), so there is no exception entry and no
return from one; the one event that redirects the core is reset, Machine/Reset.lean. -/

namespace Sys2Proof.Machine

/-! ## Words -/

/-- `zext_16` (00_scope R6). -/
def zext16 (b : Byte) : Word := b.zeroExtend 16

/-- `sext_16` (00_scope R6, 44_branch R262). -/
def sext16 (b : Byte) : Word := b.signExtend 16

/-- Write the high-byte alias of a 16-bit register, the low half unchanged (10_state R29). -/
def setHiByte (w : Word) (v : Byte) : Word := joinBytes v (loByte w)

/-- Write the low-byte alias of a 16-bit register, the high half unchanged (10_state R29). -/
def setLoByte (w : Word) (v : Byte) : Word := joinBytes (hiByte w) v

/-! ## Memory -/

/-- The byte at an address (20_memory R62); an unlisted address reads as `Config.memFill`. -/
def Memory.readAt : Memory → Nat → Byte
  | [], _ => Config.memFill
  | (k, v) :: rest, n => if n < k then Config.memFill else if n = k then v else Memory.readAt rest n

/-- The memory with one byte stored, in canonical form (20_memory R63). -/
def Memory.writeAt : Memory → Nat → Byte → Memory
  | [], n, v => if v = Config.memFill then [] else [(n, v)]
  | (k, w) :: rest, n, v =>
    if n < k then (if v = Config.memFill then (k, w) :: rest else (n, v) :: (k, w) :: rest)
    else if n = k then (if v = Config.memFill then rest else (n, v) :: rest)
    else (k, w) :: Memory.writeAt rest n v

/-- `MemRead(addr, 1)` (00_scope R9). -/
def Memory.read (m : Memory) (a : Word) : Byte := m.readAt a.toNat

/-- `MemWrite(addr, 1, v)` (00_scope R9). -/
def Memory.write (m : Memory) (a : Word) (v : Byte) : Memory := m.writeAt a.toNat v

/-- The cells from address `lo` on are in canonical form: rising, below 2^16, none at the fill value. -/
def Memory.wfFrom : Nat → Memory → Bool
  | _, [] => true
  | lo, (k, v) :: rest => decide (lo ≤ k) && decide (k < 65536) && decide (v ≠ Config.memFill) && Memory.wfFrom (k + 1) rest

/-- Canonical form: equal memories are equal lists. -/
def Memory.wf (m : Memory) : Bool := Memory.wfFrom 0 m

/-! ## Combinational views -/

/-- `DIN`, the value on the `Din` port in the current period (10_state R28, 20_memory R62): the byte at
`ADDR` when the core reads, anything when it writes. DESIGN CHOICE: the byte at `ADDR` in a dead period with
`RW = 1` too, as R62 says of every such period; 92 D33 and 93 U9 allow any value there, and no handler
consumes it (log 8). -/
def State.din (s : State) : Byte := if s.rw then s.mem.read s.addr else Config.dinWhileWriting s.addr

/-- `MODE = INSTR[5:4]` (10_state R34). -/
def State.mode (s : State) : BitVec 2 := s.instr.extractLsb' 4 2

/-- What the memory holds after the current period: a write is committed when `RW = 0` and `VMA = 1`
(20_memory R63). It does not see the reset input (10_state R42). -/
def State.committedMem (s : State) : Memory := if !s.rw && s.vma then s.mem.write s.addr s.dout else s.mem

/-! ## The register file (10_state R20) -/

/-- The cells of the register file. -/
inductive Reg where
  | A | B | X | SP | PC | INSTR | TMP8 | TMP16 | DIN
  deriving DecidableEq, Repr

/-- Width in bits (10_state R20). -/
def Reg.width : Reg → Nat
  | .A | .B | .INSTR | .TMP8 | .DIN => 8
  | .X | .SP | .PC | .TMP16 => 16

/-- The writable tag (10_state R20, R30). -/
def Reg.writable : Reg → Bool
  | .DIN => false
  | .A | .B | .X | .SP | .PC | .INSTR | .TMP8 | .TMP16 => true

/-- Read a cell; an 8-bit one zero-extended. -/
def State.readReg (s : State) : Reg → Word
  | .A => zext16 s.a
  | .B => zext16 s.b
  | .X => s.x
  | .SP => s.sp
  | .PC => s.pc
  | .INSTR => zext16 s.instr
  | .TMP8 => zext16 s.tmp8
  | .TMP16 => s.tmp16
  | .DIN => zext16 s.din

/-- Write a cell, an 8-bit one with the low byte; refused for the read-only `DIN` (10_state R30). -/
def State.writeReg (s : State) (r : Reg) (v : Word) : Host.Outcome State Fault Refusal :=
  match r with
  | .A => .next { s with a := loByte v }
  | .B => .next { s with b := loByte v }
  | .X => .next { s with x := v }
  | .SP => .next { s with sp := v }
  | .PC => .next { s with pc := v }
  | .INSTR => .next { s with instr := loByte v }
  | .TMP8 => .next { s with tmp8 := loByte v }
  | .TMP16 => .next { s with tmp16 := v }
  | .DIN => .refused .readOnlyRegister

/-- One of the two accumulators (10_state R21). -/
inductive Acc where
  | A | B
  deriving DecidableEq, Repr

/-- The accumulator `acc`. -/
def State.acc (s : State) : Acc → Byte
  | .A => s.a
  | .B => s.b

/-! ## Updates -/

/-- `acc' <- v`. -/
def State.setAcc (s : State) (acc : Acc) (v : Byte) : State :=
  match acc with
  | .A => { s with a := v }
  | .B => { s with b := v }

/-- `X' <- v`. -/
def State.setX (s : State) (v : Word) : State := { s with x := v }

/-- `CCS' <- f` (10_state R32). -/
def State.setCcs (s : State) (f : Byte) : State := { s with ccs := f }

/-- `INSTR' <- op` (10_state R25). -/
def State.setInstr (s : State) (op : Byte) : State := { s with instr := op }

/-- `TMP8' <- v`. -/
def State.setTmp8 (s : State) (v : Byte) : State := { s with tmp8 := v }

/-- `TMP16' <- v`. -/
def State.setTmp16 (s : State) (v : Word) : State := { s with tmp16 := v }

/-- `DOUT' <- v`. -/
def State.setDout (s : State) (v : Byte) : State := { s with dout := v }

/-- The memory replaced. -/
def State.setMem (s : State) (m : Memory) : State := { s with mem := m }

/-- The per-period defaults in normal operation (40 R122): `CYCLE' <- CYCLE + 1`, `VMA' <- 1`. -/
def State.tick (s : State) : State := { s with cycle := s.cycle + 1, vma := true }

/-- `end_instr(t)` (40 R124). -/
def State.endInstr (s : State) (t : Word) : State :=
  { s with pc := t, addr := t, rw := true, cycle := 0, vma := true }

/-! ## The instruction stream -/

/-- The instruction-boundary invariant (10_state R45). -/
def State.atBoundary (s : State) : Bool :=
  s.rst == 3 && s.cycle == 0 && s.addr == s.pc && s.rw && s.vma

/-- The instruction at the program counter: the three bytes from `PC` on, wrapping at the top of the
address space (20_memory R70), decoded. -/
def State.nextInstr (s : State) : Instr :=
  decodeTriple (s.mem.read s.pc) (s.mem.read (s.pc + 1)) (s.mem.read (s.pc + 2))

/-- The memory with the three bytes of a table word stored from `p` on. -/
def Memory.placeTableWord (m : Memory) (p : Word) (nbits w : Nat) : Memory :=
  ((m.write p (tableByte nbits w 0)).write (p + 1) (tableByte nbits w 1)).write (p + 2) (tableByte nbits w 2)

end Sys2Proof.Machine
end

