-- ==== Sys2Proof/Machine/Flags.lean ====
section
/-! DEFINITION. The flag vector and the ALU collaborator (41_alu_contract): the 27 functions the core can
select (R163), the shape of an ALU (R160, R161), the source's contract (R164), and the reference ALU
(R170 to R192), which is this machine's. Everything of the reference ALU is the spec's own, "[from general
knowledge, not in source]": PRESUMED (log 9). Flag positions: log 11. -/

namespace Sys2Proof.Machine

/-! ## The flag vector (10_state R31) -/

def flagC (ccs : Byte) : Bool := ccs.getLsbD 0
def flagV (ccs : Byte) : Bool := ccs.getLsbD 1
def flagZ (ccs : Byte) : Bool := ccs.getLsbD 2
def flagN (ccs : Byte) : Bool := ccs.getLsbD 3
def flagI (ccs : Byte) : Bool := ccs.getLsbD 4
def flagH (ccs : Byte) : Bool := ccs.getLsbD 5

/-- A flag vector from its six flags, bits 7:6 reading 1 (41 Part 2, `| 0xC0`). -/
def mkFlags (h i n z v c : Bool) : Byte :=
  0b11#2 ++ BitVec.ofBool h ++ BitVec.ofBool i ++ BitVec.ofBool n ++ BitVec.ofBool z ++ BitVec.ofBool v ++ BitVec.ofBool c

/-- `{0b11, b[5:0]}` (41 R189, R190). -/
def withReservedBits (b : Byte) : Byte := 0xC0 ||| b

/-! ## The ALU port -/

/-- The function selector (41 R163). -/
inductive AluFunc where
  | none | ld | add | adc | sub | sbc | and | eor | ora | com | inc | dec | rol | ror | asl | asr | lsr
  | clv | sev | clc | sec | cli | sei | clz | sez | tap | tpa
  deriving DecidableEq, Repr

/-- The ALU's two outputs (41 R160). -/
structure AluOut where
  result : Byte
  flags : Byte
  deriving DecidableEq, Repr

/-- An ALU: a total function of the selector, the two operands and the current flag vector (41 R160,
R161). -/
abbrev Alu := AluFunc → Byte → Byte → Byte → AluOut

/-! ## The reference ALU (41 Part 2) -/

/-- `NZ(r)` with the given `V` and `C`; `H` and `I` copied from `ccs`. -/
def resultFlags (ccs r : Byte) (v c : Bool) : Byte := mkFlags (flagH ccs) (flagI ccs) r.msb (r == 0) v c

/-- `ADD` with the carry-in `c`, `ADC` with the carry flag (41 R173, R174). -/
def aluAdd (x y ccs : Byte) (c : Bool) : AluOut :=
  let sum := x.toNat + y.toNat + c.toNat
  let r := BitVec.ofNat 8 sum
  let h := decide (16 ≤ x.toNat % 16 + y.toNat % 16 + c.toNat)
  { result := r
    flags := mkFlags h (flagI ccs) r.msb (r == 0) (x.msb == y.msb && r.msb != x.msb) (decide (256 ≤ sum)) }

/-- `SUB` with no borrow-in, `SBC` with the carry flag (41 R175, R176). -/
def aluSub (x y ccs : Byte) (c : Bool) : AluOut :=
  let d : Int := x.toNat - y.toNat - c.toNat
  let r := BitVec.ofInt 8 d
  { result := r, flags := resultFlags ccs r (x.msb != y.msb && r.msb != x.msb) (decide (d < 0)) }

/-- The logical functions and `LD`: `NZ(r)`, `V = 0`, `C` unchanged (41 R172, R177 to R179). -/
def aluLogic (ccs r : Byte) : AluOut := { result := r, flags := resultFlags ccs r false (flagC ccs) }

/-- The shifts and rotates: `NZ(r)`, `C` the bit shifted out, `V = N ^ C` (41 R183 to R187). -/
def aluShift (ccs r : Byte) (out : Bool) : AluOut := { result := r, flags := resultFlags ccs r (r.msb ^^ out) out }

/-- A set or clear function: one flag replaced, the others copied, bits 7:6 reading 1 (41 R188). -/
def aluSetFlag (ccs : Byte) (i z v c : Bool) : AluOut :=
  { result := 0, flags := mkFlags (flagH ccs) i (flagN ccs) z v c }

/-- The reference ALU, function by function (41 R171 to R190). -/
def referenceAlu : Alu := fun func x y ccs =>
  let c := flagC ccs
  match func with
  | .none => { result := 0, flags := ccs }
  | .ld => aluLogic ccs y
  | .add => aluAdd x y ccs false
  | .adc => aluAdd x y ccs c
  | .sub => aluSub x y ccs false
  | .sbc => aluSub x y ccs c
  | .and => aluLogic ccs (x &&& y)
  | .eor => aluLogic ccs (x ^^^ y)
  | .ora => aluLogic ccs (x ||| y)
  | .com => { result := ~~~y, flags := resultFlags ccs (~~~y) false true }
  | .inc => { result := y + 1, flags := resultFlags ccs (y + 1) (y + 1 == 0x80) c }
  | .dec => { result := y - 1, flags := resultFlags ccs (y - 1) (y - 1 == 0x7F) c }
  | .rol => aluShift ccs (y.extractLsb' 0 7 ++ BitVec.ofBool c) (y.getLsbD 7)
  | .ror => aluShift ccs (BitVec.ofBool c ++ y.extractLsb' 1 7) (y.getLsbD 0)
  | .asl => aluShift ccs (y.extractLsb' 0 7 ++ 0#1) (y.getLsbD 7)
  | .asr => aluShift ccs (BitVec.ofBool (y.getLsbD 7) ++ y.extractLsb' 1 7) (y.getLsbD 0)
  | .lsr => aluShift ccs (0#1 ++ y.extractLsb' 1 7) (y.getLsbD 0)
  | .clv => aluSetFlag ccs (flagI ccs) (flagZ ccs) false c
  | .sev => aluSetFlag ccs (flagI ccs) (flagZ ccs) true c
  | .clc => aluSetFlag ccs (flagI ccs) (flagZ ccs) (flagV ccs) false
  | .sec => aluSetFlag ccs (flagI ccs) (flagZ ccs) (flagV ccs) true
  | .cli => aluSetFlag ccs false (flagZ ccs) (flagV ccs) c
  | .sei => aluSetFlag ccs true (flagZ ccs) (flagV ccs) c
  | .clz => aluSetFlag ccs (flagI ccs) false (flagV ccs) c
  | .sez => aluSetFlag ccs (flagI ccs) true (flagV ccs) c
  | .tap => { result := x, flags := withReservedBits x }
  | .tpa => { result := withReservedBits ccs, flags := ccs }

/-- The parameter `ALU` (00_scope R5, 41 R166): this machine has the reference ALU (log 9). The handlers
take the ALU as an argument, so a claim about addresses or control flow can be made for every ALU. -/
def machineAlu : Alu := referenceAlu

end Sys2Proof.Machine
end

