-- ==== Sys2Proof/Machine/Operands.lean ====
section
/-! DEFINITION. Operands, in the spec's two readings. First the instruction-level one (30_encoding R95,
40 R135): the effective address and the operand byte of every operand form, its length, and what the
resolver leaves in the scratch registers. Then the clock-level one: the cycles of the four addressing-mode
resolvers (40 R130 to R133), one definition per row of the cycle tables. -/

namespace Sys2Proof

open Machine

/-! ## Instruction level -/

/-- `EA_dir = zext_16(b1)` (40 R135). -/
def eaDirect (dd : Byte) : Word := zext16 dd

/-- `EA_idx = (X + zext_16(b1)) mod 2^16` (40 R135). -/
def eaIndexed (ff : Byte) (s : State) : Word := s.x + zext16 ff

/-- The effective address of a read-modify-write or jump operand. -/
def MemOperand.ea : MemOperand → State → Word
  | .idx ff, s => eaIndexed ff s
  | .ext hhll, _ => hhll

/-- The effective address of a store operand. -/
def StoreOperand.ea : StoreOperand → State → Word
  | .dir dd, _ => eaDirect dd
  | .idx ff, s => eaIndexed ff s
  | .ext hhll, _ => hhll

/-- The operand byte of an ALU-read operand: the immediate, or the byte at the effective address. -/
def ReadOperand.value : ReadOperand → State → Byte
  | .imm ii, _ => ii
  | .dir dd, s => s.mem.read (eaDirect dd)
  | .idx ff, s => s.mem.read (eaIndexed ff s)
  | .ext hhll, s => s.mem.read hhll

/-- The instruction's length with this operand (30_encoding R101). -/
def MemOperand.length : MemOperand → Word
  | .idx _ => 2
  | .ext _ => 3

/-- The instruction's length with this operand (30_encoding R101). -/
def StoreOperand.length : StoreOperand → Word
  | .dir _ | .idx _ => 2
  | .ext _ => 3

/-- The instruction's length with this operand (30_encoding R101). -/
def ReadOperand.length : ReadOperand → Word
  | .imm _ | .dir _ | .idx _ => 2
  | .ext _ => 3

/-- What resolving an ALU-read operand leaves in the scratch registers: the immediate in `TMP8`, an
effective address in `TMP16` (10_state R26, R27; 40 R130 to R133). -/
def ReadOperand.latch : ReadOperand → State → State
  | .imm ii, s => s.setTmp8 ii
  | .dir dd, s => s.setTmp16 (eaDirect dd)
  | .idx ff, s => s.setTmp16 (eaIndexed ff s)
  | .ext hhll, s => s.setTmp16 hhll

namespace Machine

/-! ## Clock level: the resolvers

Every row reads the unprimed state `s` only, and starts from the defaults `s.tick` (40 R120, R122). `dead`
says that the calling handler marks the next period dead (40 R123). -/

/-- Immediate resolver, cycle 1 (40 R130). -/
def immediateCycle1 (s : State) : State :=
  { s.tick with tmp8 := s.din, pc := s.pc + 1, addr := s.pc + 1, rw := true }

/-- Direct resolver, cycle 1, with the bus redirected to `EA` (40 R131). -/
def directCycle1 (dead : Bool) (s : State) : State :=
  { s.tick with tmp16 := zext16 s.din, pc := s.pc + 1, addr := zext16 s.din, rw := true, vma := !dead }

/-- Extended resolver, cycle 1 (40 R132). -/
def extendedCycle1 (s : State) : State :=
  { s.tick with tmp16 := setHiByte s.tmp16 s.din, pc := s.pc + 1, addr := s.pc + 1, rw := true }

/-- Extended resolver, cycle 2, with the bus redirected to `EA` (40 R132). -/
def extendedCycle2 (dead : Bool) (s : State) : State :=
  { s.tick with
    tmp16 := setLoByte s.tmp16 s.din, pc := s.pc + 1, addr := joinBytes (hiByte s.tmp16) s.din, rw := true,
    vma := !dead }

/-- Indexed resolver, cycle 1: only the offset; cycle 2 will be dead (40 R133). -/
def indexedCycle1 (s : State) : State :=
  { s.tick with tmp16 := zext16 s.din, pc := s.pc + 1, addr := s.pc + 1, rw := true, vma := false }

/-- Indexed resolver, cycle 2: the sum; cycle 3 will be dead (40 R133). -/
def indexedCycle2 (s : State) : State := { s.tick with tmp16 := s.tmp16 + s.x, vma := false }

/-- Cycle 3 of an indexed memory operand: the bus redirected to `EA` (42 R201, 43 R232, 45 R291). -/
def indexedCycle3 (dead : Bool) (s : State) : State := { s.tick with addr := s.tmp16, rw := true, vma := !dead }

end Machine

end Sys2Proof
end

