-- ==== Sys2Proof/Machine/AluRead.lean ====
section
/-! DEFINITION. The ALU-read family (42_alu_read): the ten operations and their function and write-back
(R202), the net effect of an instruction (R213), the cycle tables of the four modes (R201), and the
meaning of each of the 80 instructions. -/

namespace Sys2Proof.Machine

/-- The ten operations (42 R202). -/
inductive ReadOp where
  | sub | cmp | sbc | and | bit | lda | eor | adc | ora | add
  deriving DecidableEq, Repr

/-- The ALU function of an operation (42 R202). -/
def ReadOp.func : ReadOp → AluFunc
  | .sub => .sub
  | .cmp => .sub
  | .sbc => .sbc
  | .and => .and
  | .bit => .and
  | .lda => .ld
  | .eor => .eor
  | .adc => .adc
  | .ora => .ora
  | .add => .add

/-- Whether the result is written back: "compare/test variants skip the write-back" (42 R200, R202). -/
def ReadOp.stores : ReadOp → Bool
  | .cmp | .bit => false
  | .sub | .sbc | .and | .lda | .eor | .adc | .ora | .add => true

/-- `FIRE(v)` without the end of the instruction (42 R201): flags, and the accumulator if stored. -/
def readFire (alu : Alu) (op : ReadOp) (acc : Acc) (v : Byte) (s : State) : State :=
  let out := alu op.func (s.acc acc) v s.ccs
  if op.stores then (s.setAcc acc out.result).setCcs out.flags else s.setCcs out.flags

/-- The net effect of an ALU-read instruction at `PC = p` (42 R213). -/
def readEffect (alu : Alu) (op : ReadOp) (acc : Acc) (o : ReadOperand) (s : State) : State :=
  (readFire alu op acc (o.value s) (o.latch s)).endInstr (s.pc + o.length)

/-- The handler's cycles (42 R201), by `MODE` (30_encoding R92) and `CYCLE`; a cycle the table does not
have ends the instruction (93 U17, log 14). -/
def readPeriod (alu : Alu) (op : ReadOp) (s : State) : State :=
  let acc : Acc := if s.instr.getLsbD 6 then .B else .A
  let fire (v : Byte) : State := (readFire alu op acc v s).endInstr s.pc
  match s.mode.toNat, s.cycle.toNat with
  | 0, 1 => immediateCycle1 s
  | 0, 2 => fire s.tmp8
  | 1, 1 => directCycle1 false s
  | 1, 2 => fire s.din
  | 2, 1 => indexedCycle1 s
  | 2, 2 => indexedCycle2 s
  | 2, 3 => indexedCycle3 false s
  | 2, 4 => fire s.din
  | 3, 1 => extendedCycle1 s
  | 3, 2 => extendedCycle2 false s
  | 3, 3 => fire s.din
  | _, _ => s.endInstr s.pc

/-! ## The instructions -/

/-- SUBA IMM8, opcode 0x80 (R205). -/
def execSubaImm (ii : Byte) (s : State) : Host.Outcome State Fault Refusal :=
  .next (readEffect machineAlu .sub .A (.imm ii) s)

/-- CMPA IMM8, opcode 0x81 (R206). -/
def execCmpaImm (ii : Byte) (s : State) : Host.Outcome State Fault Refusal :=
  .next (readEffect machineAlu .cmp .A (.imm ii) s)

/-- SBCA IMM8, opcode 0x82 (R207). -/
def execSbcaImm (ii : Byte) (s : State) : Host.Outcome State Fault Refusal :=
  .next (readEffect machineAlu .sbc .A (.imm ii) s)

/-- ANDA IMM8, opcode 0x84 (R208). -/
def execAndaImm (ii : Byte) (s : State) : Host.Outcome State Fault Refusal :=
  .next (readEffect machineAlu .and .A (.imm ii) s)

/-- BITA IMM8, opcode 0x85 (R209). -/
def execBitaImm (ii : Byte) (s : State) : Host.Outcome State Fault Refusal :=
  .next (readEffect machineAlu .bit .A (.imm ii) s)

/-- LDAA IMM8, opcode 0x86 (R211). -/
def execLdaaImm (ii : Byte) (s : State) : Host.Outcome State Fault Refusal :=
  .next (readEffect machineAlu .lda .A (.imm ii) s)

/-- EORA IMM8, opcode 0x88 (R210). -/
def execEoraImm (ii : Byte) (s : State) : Host.Outcome State Fault Refusal :=
  .next (readEffect machineAlu .eor .A (.imm ii) s)

/-- ADCA IMM8, opcode 0x89 (R204). -/
def execAdcaImm (ii : Byte) (s : State) : Host.Outcome State Fault Refusal :=
  .next (readEffect machineAlu .adc .A (.imm ii) s)

/-- ORAA IMM8, opcode 0x8A (R212). -/
def execOraaImm (ii : Byte) (s : State) : Host.Outcome State Fault Refusal :=
  .next (readEffect machineAlu .ora .A (.imm ii) s)

/-- ADDA IMM8, opcode 0x8B (R203). -/
def execAddaImm (ii : Byte) (s : State) : Host.Outcome State Fault Refusal :=
  .next (readEffect machineAlu .add .A (.imm ii) s)

/-- SUBA DIR, opcode 0x90 (R205). -/
def execSubaDir (dd : Byte) (s : State) : Host.Outcome State Fault Refusal :=
  .next (readEffect machineAlu .sub .A (.dir dd) s)

/-- CMPA DIR, opcode 0x91 (R206). -/
def execCmpaDir (dd : Byte) (s : State) : Host.Outcome State Fault Refusal :=
  .next (readEffect machineAlu .cmp .A (.dir dd) s)

/-- SBCA DIR, opcode 0x92 (R207). -/
def execSbcaDir (dd : Byte) (s : State) : Host.Outcome State Fault Refusal :=
  .next (readEffect machineAlu .sbc .A (.dir dd) s)

/-- ANDA DIR, opcode 0x94 (R208). -/
def execAndaDir (dd : Byte) (s : State) : Host.Outcome State Fault Refusal :=
  .next (readEffect machineAlu .and .A (.dir dd) s)

/-- BITA DIR, opcode 0x95 (R209). -/
def execBitaDir (dd : Byte) (s : State) : Host.Outcome State Fault Refusal :=
  .next (readEffect machineAlu .bit .A (.dir dd) s)

/-- LDAA DIR, opcode 0x96 (R211). -/
def execLdaaDir (dd : Byte) (s : State) : Host.Outcome State Fault Refusal :=
  .next (readEffect machineAlu .lda .A (.dir dd) s)

/-- EORA DIR, opcode 0x98 (R210). -/
def execEoraDir (dd : Byte) (s : State) : Host.Outcome State Fault Refusal :=
  .next (readEffect machineAlu .eor .A (.dir dd) s)

/-- ADCA DIR, opcode 0x99 (R204). -/
def execAdcaDir (dd : Byte) (s : State) : Host.Outcome State Fault Refusal :=
  .next (readEffect machineAlu .adc .A (.dir dd) s)

/-- ORAA DIR, opcode 0x9A (R212). -/
def execOraaDir (dd : Byte) (s : State) : Host.Outcome State Fault Refusal :=
  .next (readEffect machineAlu .ora .A (.dir dd) s)

/-- ADDA DIR, opcode 0x9B (R203). -/
def execAddaDir (dd : Byte) (s : State) : Host.Outcome State Fault Refusal :=
  .next (readEffect machineAlu .add .A (.dir dd) s)

/-- SUBA IDX, opcode 0xA0 (R205). -/
def execSubaIdx (ff : Byte) (s : State) : Host.Outcome State Fault Refusal :=
  .next (readEffect machineAlu .sub .A (.idx ff) s)

/-- CMPA IDX, opcode 0xA1 (R206). -/
def execCmpaIdx (ff : Byte) (s : State) : Host.Outcome State Fault Refusal :=
  .next (readEffect machineAlu .cmp .A (.idx ff) s)

/-- SBCA IDX, opcode 0xA2 (R207). -/
def execSbcaIdx (ff : Byte) (s : State) : Host.Outcome State Fault Refusal :=
  .next (readEffect machineAlu .sbc .A (.idx ff) s)

/-- ANDA IDX, opcode 0xA4 (R208). -/
def execAndaIdx (ff : Byte) (s : State) : Host.Outcome State Fault Refusal :=
  .next (readEffect machineAlu .and .A (.idx ff) s)

/-- BITA IDX, opcode 0xA5 (R209). -/
def execBitaIdx (ff : Byte) (s : State) : Host.Outcome State Fault Refusal :=
  .next (readEffect machineAlu .bit .A (.idx ff) s)

/-- LDAA IDX, opcode 0xA6 (R211). -/
def execLdaaIdx (ff : Byte) (s : State) : Host.Outcome State Fault Refusal :=
  .next (readEffect machineAlu .lda .A (.idx ff) s)

/-- EORA IDX, opcode 0xA8 (R210). -/
def execEoraIdx (ff : Byte) (s : State) : Host.Outcome State Fault Refusal :=
  .next (readEffect machineAlu .eor .A (.idx ff) s)

/-- ADCA IDX, opcode 0xA9 (R204). -/
def execAdcaIdx (ff : Byte) (s : State) : Host.Outcome State Fault Refusal :=
  .next (readEffect machineAlu .adc .A (.idx ff) s)

/-- ORAA IDX, opcode 0xAA (R212). -/
def execOraaIdx (ff : Byte) (s : State) : Host.Outcome State Fault Refusal :=
  .next (readEffect machineAlu .ora .A (.idx ff) s)

/-- ADDA IDX, opcode 0xAB (R203). -/
def execAddaIdx (ff : Byte) (s : State) : Host.Outcome State Fault Refusal :=
  .next (readEffect machineAlu .add .A (.idx ff) s)

/-- SUBA EXT, opcode 0xB0 (R205). -/
def execSubaExt (hhll : Word) (s : State) : Host.Outcome State Fault Refusal :=
  .next (readEffect machineAlu .sub .A (.ext hhll) s)

/-- CMPA EXT, opcode 0xB1 (R206). -/
def execCmpaExt (hhll : Word) (s : State) : Host.Outcome State Fault Refusal :=
  .next (readEffect machineAlu .cmp .A (.ext hhll) s)

/-- SBCA EXT, opcode 0xB2 (R207). -/
def execSbcaExt (hhll : Word) (s : State) : Host.Outcome State Fault Refusal :=
  .next (readEffect machineAlu .sbc .A (.ext hhll) s)

/-- ANDA EXT, opcode 0xB4 (R208). -/
def execAndaExt (hhll : Word) (s : State) : Host.Outcome State Fault Refusal :=
  .next (readEffect machineAlu .and .A (.ext hhll) s)

/-- BITA EXT, opcode 0xB5 (R209). -/
def execBitaExt (hhll : Word) (s : State) : Host.Outcome State Fault Refusal :=
  .next (readEffect machineAlu .bit .A (.ext hhll) s)

/-- LDAA EXT, opcode 0xB6 (R211). -/
def execLdaaExt (hhll : Word) (s : State) : Host.Outcome State Fault Refusal :=
  .next (readEffect machineAlu .lda .A (.ext hhll) s)

/-- EORA EXT, opcode 0xB8 (R210). -/
def execEoraExt (hhll : Word) (s : State) : Host.Outcome State Fault Refusal :=
  .next (readEffect machineAlu .eor .A (.ext hhll) s)

/-- ADCA EXT, opcode 0xB9 (R204). -/
def execAdcaExt (hhll : Word) (s : State) : Host.Outcome State Fault Refusal :=
  .next (readEffect machineAlu .adc .A (.ext hhll) s)

/-- ORAA EXT, opcode 0xBA (R212). -/
def execOraaExt (hhll : Word) (s : State) : Host.Outcome State Fault Refusal :=
  .next (readEffect machineAlu .ora .A (.ext hhll) s)

/-- ADDA EXT, opcode 0xBB (R203). -/
def execAddaExt (hhll : Word) (s : State) : Host.Outcome State Fault Refusal :=
  .next (readEffect machineAlu .add .A (.ext hhll) s)

/-- SUBB IMM8, opcode 0xC0 (R205). -/
def execSubbImm (ii : Byte) (s : State) : Host.Outcome State Fault Refusal :=
  .next (readEffect machineAlu .sub .B (.imm ii) s)

/-- CMPB IMM8, opcode 0xC1 (R206). -/
def execCmpbImm (ii : Byte) (s : State) : Host.Outcome State Fault Refusal :=
  .next (readEffect machineAlu .cmp .B (.imm ii) s)

/-- SBCB IMM8, opcode 0xC2 (R207). -/
def execSbcbImm (ii : Byte) (s : State) : Host.Outcome State Fault Refusal :=
  .next (readEffect machineAlu .sbc .B (.imm ii) s)

/-- ANDB IMM8, opcode 0xC4 (R208). -/
def execAndbImm (ii : Byte) (s : State) : Host.Outcome State Fault Refusal :=
  .next (readEffect machineAlu .and .B (.imm ii) s)

/-- BITB IMM8, opcode 0xC5 (R209). -/
def execBitbImm (ii : Byte) (s : State) : Host.Outcome State Fault Refusal :=
  .next (readEffect machineAlu .bit .B (.imm ii) s)

/-- LDAB IMM8, opcode 0xC6 (R211). -/
def execLdabImm (ii : Byte) (s : State) : Host.Outcome State Fault Refusal :=
  .next (readEffect machineAlu .lda .B (.imm ii) s)

/-- EORB IMM8, opcode 0xC8 (R210). -/
def execEorbImm (ii : Byte) (s : State) : Host.Outcome State Fault Refusal :=
  .next (readEffect machineAlu .eor .B (.imm ii) s)

/-- ADCB IMM8, opcode 0xC9 (R204). -/
def execAdcbImm (ii : Byte) (s : State) : Host.Outcome State Fault Refusal :=
  .next (readEffect machineAlu .adc .B (.imm ii) s)

/-- ORAB IMM8, opcode 0xCA (R212). -/
def execOrabImm (ii : Byte) (s : State) : Host.Outcome State Fault Refusal :=
  .next (readEffect machineAlu .ora .B (.imm ii) s)

/-- ADDB IMM8, opcode 0xCB (R203). -/
def execAddbImm (ii : Byte) (s : State) : Host.Outcome State Fault Refusal :=
  .next (readEffect machineAlu .add .B (.imm ii) s)

/-- SUBB DIR, opcode 0xD0 (R205). -/
def execSubbDir (dd : Byte) (s : State) : Host.Outcome State Fault Refusal :=
  .next (readEffect machineAlu .sub .B (.dir dd) s)

/-- CMPB DIR, opcode 0xD1 (R206). -/
def execCmpbDir (dd : Byte) (s : State) : Host.Outcome State Fault Refusal :=
  .next (readEffect machineAlu .cmp .B (.dir dd) s)

/-- SBCB DIR, opcode 0xD2 (R207). -/
def execSbcbDir (dd : Byte) (s : State) : Host.Outcome State Fault Refusal :=
  .next (readEffect machineAlu .sbc .B (.dir dd) s)

/-- ANDB DIR, opcode 0xD4 (R208). -/
def execAndbDir (dd : Byte) (s : State) : Host.Outcome State Fault Refusal :=
  .next (readEffect machineAlu .and .B (.dir dd) s)

/-- BITB DIR, opcode 0xD5 (R209). -/
def execBitbDir (dd : Byte) (s : State) : Host.Outcome State Fault Refusal :=
  .next (readEffect machineAlu .bit .B (.dir dd) s)

/-- LDAB DIR, opcode 0xD6 (R211). -/
def execLdabDir (dd : Byte) (s : State) : Host.Outcome State Fault Refusal :=
  .next (readEffect machineAlu .lda .B (.dir dd) s)

/-- EORB DIR, opcode 0xD8 (R210). -/
def execEorbDir (dd : Byte) (s : State) : Host.Outcome State Fault Refusal :=
  .next (readEffect machineAlu .eor .B (.dir dd) s)

/-- ADCB DIR, opcode 0xD9 (R204). -/
def execAdcbDir (dd : Byte) (s : State) : Host.Outcome State Fault Refusal :=
  .next (readEffect machineAlu .adc .B (.dir dd) s)

/-- ORAB DIR, opcode 0xDA (R212). -/
def execOrabDir (dd : Byte) (s : State) : Host.Outcome State Fault Refusal :=
  .next (readEffect machineAlu .ora .B (.dir dd) s)

/-- ADDB DIR, opcode 0xDB (R203). -/
def execAddbDir (dd : Byte) (s : State) : Host.Outcome State Fault Refusal :=
  .next (readEffect machineAlu .add .B (.dir dd) s)

/-- SUBB IDX, opcode 0xE0 (R205). -/
def execSubbIdx (ff : Byte) (s : State) : Host.Outcome State Fault Refusal :=
  .next (readEffect machineAlu .sub .B (.idx ff) s)

/-- CMPB IDX, opcode 0xE1 (R206). -/
def execCmpbIdx (ff : Byte) (s : State) : Host.Outcome State Fault Refusal :=
  .next (readEffect machineAlu .cmp .B (.idx ff) s)

/-- SBCB IDX, opcode 0xE2 (R207). -/
def execSbcbIdx (ff : Byte) (s : State) : Host.Outcome State Fault Refusal :=
  .next (readEffect machineAlu .sbc .B (.idx ff) s)

/-- ANDB IDX, opcode 0xE4 (R208). -/
def execAndbIdx (ff : Byte) (s : State) : Host.Outcome State Fault Refusal :=
  .next (readEffect machineAlu .and .B (.idx ff) s)

/-- BITB IDX, opcode 0xE5 (R209). -/
def execBitbIdx (ff : Byte) (s : State) : Host.Outcome State Fault Refusal :=
  .next (readEffect machineAlu .bit .B (.idx ff) s)

/-- LDAB IDX, opcode 0xE6 (R211). -/
def execLdabIdx (ff : Byte) (s : State) : Host.Outcome State Fault Refusal :=
  .next (readEffect machineAlu .lda .B (.idx ff) s)

/-- EORB IDX, opcode 0xE8 (R210). -/
def execEorbIdx (ff : Byte) (s : State) : Host.Outcome State Fault Refusal :=
  .next (readEffect machineAlu .eor .B (.idx ff) s)

/-- ADCB IDX, opcode 0xE9 (R204). -/
def execAdcbIdx (ff : Byte) (s : State) : Host.Outcome State Fault Refusal :=
  .next (readEffect machineAlu .adc .B (.idx ff) s)

/-- ORAB IDX, opcode 0xEA (R212). -/
def execOrabIdx (ff : Byte) (s : State) : Host.Outcome State Fault Refusal :=
  .next (readEffect machineAlu .ora .B (.idx ff) s)

/-- ADDB IDX, opcode 0xEB (R203). -/
def execAddbIdx (ff : Byte) (s : State) : Host.Outcome State Fault Refusal :=
  .next (readEffect machineAlu .add .B (.idx ff) s)

/-- SUBB EXT, opcode 0xF0 (R205). -/
def execSubbExt (hhll : Word) (s : State) : Host.Outcome State Fault Refusal :=
  .next (readEffect machineAlu .sub .B (.ext hhll) s)

/-- CMPB EXT, opcode 0xF1 (R206). -/
def execCmpbExt (hhll : Word) (s : State) : Host.Outcome State Fault Refusal :=
  .next (readEffect machineAlu .cmp .B (.ext hhll) s)

/-- SBCB EXT, opcode 0xF2 (R207). -/
def execSbcbExt (hhll : Word) (s : State) : Host.Outcome State Fault Refusal :=
  .next (readEffect machineAlu .sbc .B (.ext hhll) s)

/-- ANDB EXT, opcode 0xF4 (R208). -/
def execAndbExt (hhll : Word) (s : State) : Host.Outcome State Fault Refusal :=
  .next (readEffect machineAlu .and .B (.ext hhll) s)

/-- BITB EXT, opcode 0xF5 (R209). -/
def execBitbExt (hhll : Word) (s : State) : Host.Outcome State Fault Refusal :=
  .next (readEffect machineAlu .bit .B (.ext hhll) s)

/-- LDAB EXT, opcode 0xF6 (R211). -/
def execLdabExt (hhll : Word) (s : State) : Host.Outcome State Fault Refusal :=
  .next (readEffect machineAlu .lda .B (.ext hhll) s)

/-- EORB EXT, opcode 0xF8 (R210). -/
def execEorbExt (hhll : Word) (s : State) : Host.Outcome State Fault Refusal :=
  .next (readEffect machineAlu .eor .B (.ext hhll) s)

/-- ADCB EXT, opcode 0xF9 (R204). -/
def execAdcbExt (hhll : Word) (s : State) : Host.Outcome State Fault Refusal :=
  .next (readEffect machineAlu .adc .B (.ext hhll) s)

/-- ORAB EXT, opcode 0xFA (R212). -/
def execOrabExt (hhll : Word) (s : State) : Host.Outcome State Fault Refusal :=
  .next (readEffect machineAlu .ora .B (.ext hhll) s)

/-- ADDB EXT, opcode 0xFB (R203). -/
def execAddbExt (hhll : Word) (s : State) : Host.Outcome State Fault Refusal :=
  .next (readEffect machineAlu .add .B (.ext hhll) s)

end Sys2Proof.Machine
end

