-- ==== Sys2Proof/Machine/Branch.lean ====
section
/-! DEFINITION. The branch family (44_branch): the condition (R261), the net effect (R279), the cycle table
(R262), and the meaning of each of the 16 branches. -/

namespace Sys2Proof.Machine

/-- The base condition a 3-bit selector chooses (44 R261, the source's table). -/
def baseCondition (sel : BitVec 3) (ccs : Byte) : Bool :=
  let c := flagC ccs
  let v := flagV ccs
  let z := flagZ ccs
  let n := flagN ccs
  match sel.toNat with
  | 0 => true
  | 1 => !(c || z)
  | 2 => !c
  | 3 => !z
  | 4 => !v
  | 5 => !n
  | 6 => !(n ^^ v)
  | _ => !(z || (n ^^ v))

/-- `taken = base(sel, CCS) ^ inv` (44 R261). -/
def branchTaken (sel : BitVec 3) (inv : Bool) (ccs : Byte) : Bool := baseCondition sel ccs ^^ inv

/-- `target = (p + 2 + sext_16(b1)) mod 2^16` (30_encoding R95, 44 R279). -/
def branchTarget (p : Word) (rr : Byte) : Word := p + 2 + sext16 rr

/-- The net effect of a branch at `PC = p` (44 R279). -/
def branchEffect (sel : BitVec 3) (inv : Bool) (rr : Byte) (s : State) : State :=
  let target := branchTarget s.pc rr
  ((s.setTmp8 rr).setTmp16 target).endInstr (if branchTaken sel inv s.ccs then target else s.pc + 2)

/-- The handler's cycles (44 R262); a cycle the table does not have ends the instruction (93 U17, log 14). -/
def branchPeriod (s : State) : State :=
  match s.cycle.toNat with
  | 1 => immediateCycle1 s
  | 2 => { s.tick with tmp16 := s.pc + sext16 s.tmp8 }
  | 3 => s.endInstr (if branchTaken (s.instr.extractLsb' 1 3) (s.instr.getLsbD 0) s.ccs then s.tmp16 else s.pc)
  | _ => s.endInstr s.pc

/-! ## The instructions -/

/-- BRA, opcode 0x20 (R263). -/
def execBra (rr : Byte) (s : State) : Host.Outcome State Fault Refusal :=
  .next (branchEffect 0 false rr s)

/-- BRN, opcode 0x21 (R264). -/
def execBrn (rr : Byte) (s : State) : Host.Outcome State Fault Refusal :=
  .next (branchEffect 0 true rr s)

/-- BHI, opcode 0x22 (R265). -/
def execBhi (rr : Byte) (s : State) : Host.Outcome State Fault Refusal :=
  .next (branchEffect 1 false rr s)

/-- BLS, opcode 0x23 (R266). -/
def execBls (rr : Byte) (s : State) : Host.Outcome State Fault Refusal :=
  .next (branchEffect 1 true rr s)

/-- BCC, opcode 0x24 (R267). -/
def execBcc (rr : Byte) (s : State) : Host.Outcome State Fault Refusal :=
  .next (branchEffect 2 false rr s)

/-- BCS, opcode 0x25 (R268). -/
def execBcs (rr : Byte) (s : State) : Host.Outcome State Fault Refusal :=
  .next (branchEffect 2 true rr s)

/-- BNE, opcode 0x26 (R269). -/
def execBne (rr : Byte) (s : State) : Host.Outcome State Fault Refusal :=
  .next (branchEffect 3 false rr s)

/-- BEQ, opcode 0x27 (R270). -/
def execBeq (rr : Byte) (s : State) : Host.Outcome State Fault Refusal :=
  .next (branchEffect 3 true rr s)

/-- BVC, opcode 0x28 (R271). -/
def execBvc (rr : Byte) (s : State) : Host.Outcome State Fault Refusal :=
  .next (branchEffect 4 false rr s)

/-- BVS, opcode 0x29 (R272). -/
def execBvs (rr : Byte) (s : State) : Host.Outcome State Fault Refusal :=
  .next (branchEffect 4 true rr s)

/-- BPL, opcode 0x2A (R273). -/
def execBpl (rr : Byte) (s : State) : Host.Outcome State Fault Refusal :=
  .next (branchEffect 5 false rr s)

/-- BMI, opcode 0x2B (R274). -/
def execBmi (rr : Byte) (s : State) : Host.Outcome State Fault Refusal :=
  .next (branchEffect 5 true rr s)

/-- BGE, opcode 0x2C (R275). -/
def execBge (rr : Byte) (s : State) : Host.Outcome State Fault Refusal :=
  .next (branchEffect 6 false rr s)

/-- BLT, opcode 0x2D (R276). -/
def execBlt (rr : Byte) (s : State) : Host.Outcome State Fault Refusal :=
  .next (branchEffect 6 true rr s)

/-- BGT, opcode 0x2E (R277). -/
def execBgt (rr : Byte) (s : State) : Host.Outcome State Fault Refusal :=
  .next (branchEffect 7 false rr s)

/-- BLE, opcode 0x2F (R278). -/
def execBle (rr : Byte) (s : State) : Host.Outcome State Fault Refusal :=
  .next (branchEffect 7 true rr s)

end Sys2Proof.Machine
end

