-- ==== Sys2Proof/Machine/Jump.lean ====
section
/-! DEFINITION. The jump handler (46_jump): the net effect (R302), the cycle tables (R301), and the meaning
of both jumps. -/

namespace Sys2Proof.Machine

/-- The net effect of a jump (46 R302): the effective address itself is the new program counter. -/
def jumpEffect (o : MemOperand) (s : State) : State := (s.setTmp16 (o.ea s)).endInstr (o.ea s)

/-- Cycle 2 of the extended form: the resolver completes and the instruction ends (46 R301). -/
def jumpExtendedCycle2 (s : State) : State :=
  (s.setTmp16 (setLoByte s.tmp16 s.din)).endInstr (joinBytes (hiByte s.tmp16) s.din)

/-- The handler's cycles (46 R301), by `MODE` (30_encoding R93) and `CYCLE`; a cycle the table does not
have ends the instruction (93 U17, log 14). -/
def jumpPeriod (s : State) : State :=
  match s.mode.toNat, s.cycle.toNat with
  | 2, 1 => indexedCycle1 s
  | 2, 2 => indexedCycle2 s
  | 2, 3 => s.endInstr s.tmp16
  | 3, 1 => extendedCycle1 s
  | 3, 2 => jumpExtendedCycle2 s
  | _, _ => s.endInstr s.pc

/-! ## The instructions -/

/-- JMP IDX, opcode 0x6E (R302). -/
def execJmpIdx (ff : Byte) (s : State) : Host.Outcome State Fault Refusal :=
  .next (jumpEffect (.idx ff) s)

/-- JMP EXT, opcode 0x7E (R302). -/
def execJmpExt (hhll : Word) (s : State) : Host.Outcome State Fault Refusal :=
  .next (jumpEffect (.ext hhll) s)

end Sys2Proof.Machine
end

