-- ==== Sys2Proof/Machine/OneByte.lean ====
section
/-! DEFINITION. The single-byte handlers and the default entry (47_misc): NOP, TAP, TPA, the six flag
instructions, INX, DEX, and the unrecognised opcodes: their net effects, their cycles, and the meaning of
each. -/

namespace Sys2Proof.Machine

/-- The net effect of NOP and of an unrecognised opcode at `PC = p` (47 R311, R330). -/
def skipEffect (s : State) : State := s.endInstr (s.pc + 1)

/-- TAP's one action: `CCS' <- f` of `ALU(TAP, A, 0x00, CCS)` (47 R312). -/
def tapFire (alu : Alu) (s : State) : State := s.setCcs (alu .tap s.a 0x00 s.ccs).flags

/-- TPA's one action: `A' <- r; CCS' <- f` of `ALU(TPA, 0x00, 0x00, CCS)` (47 R313). -/
def tpaFire (alu : Alu) (s : State) : State :=
  let out := alu .tpa 0x00 0x00 s.ccs
  (s.setAcc .A out.result).setCcs out.flags

/-- The one action of a flag instruction with ALU function `func` (47 R314). -/
def flagFire (alu : Alu) (func : AluFunc) (s : State) : State := s.setCcs (alu func 0x00 0x00 s.ccs).flags

/-- The final action of INX and DEX, with the new value in `X`: `SEZ` if it is zero, else `CLZ` (47 R321). -/
def indexFire (alu : Alu) (s : State) : State :=
  s.setCcs (alu (if s.x = 0x0000 then .sez else .clz) 0x00 0x00 s.ccs).flags

/-- The net effect of TAP (47 R312). -/
def tapEffect (alu : Alu) (s : State) : State := (tapFire alu s).endInstr (s.pc + 1)

/-- The net effect of TPA (47 R313). -/
def tpaEffect (alu : Alu) (s : State) : State := (tpaFire alu s).endInstr (s.pc + 1)

/-- The net effect of a flag instruction (47 R314). -/
def flagEffect (alu : Alu) (func : AluFunc) (s : State) : State := (flagFire alu func s).endInstr (s.pc + 1)

/-- The net effect of INX or DEX, whose new index value is `x'` (47 R321 to R323). -/
def indexEffect (alu : Alu) (x' : Word) (s : State) : State := (indexFire alu (s.setX x')).endInstr (s.pc + 1)

/-- The ALU function of a flag instruction, from `INSTR[2:0]` (47 R314). -/
def flagFunc (instr : Byte) : AluFunc :=
  match (instr.extractLsb' 0 3).toNat with
  | 2 => .clv
  | 3 => .sev
  | 4 => .clc
  | 5 => .sec
  | 6 => .cli
  | 7 => .sei
  | _ => .none

/-- A one-cycle handler: its action in cycle 1, which ends the instruction; any other cycle only ends it
(47 R310; 93 U17, log 14). -/
def oneCyclePeriod (fire : State → State) (s : State) : State :=
  if s.cycle = 1 then (fire s).endInstr s.pc else s.endInstr s.pc

/-- The cycles of INX and DEX (47 R321); `INSTR[0]` decrements. -/
def indexPeriod (alu : Alu) (s : State) : State :=
  match s.cycle.toNat with
  | 1 => { s.tick with x := if s.instr.getLsbD 0 then s.x - 1 else s.x + 1, addr := s.x, vma := false }
  | 2 => { s.tick with addr := s.x, vma := false }
  | 3 => (indexFire alu s).endInstr s.pc
  | _ => s.endInstr s.pc

/-! ## The instructions -/

/-- NOP, opcode 0x01 (R311). -/
def execNop (s : State) : Host.Outcome State Fault Refusal :=
  .next (skipEffect s)

/-- TAP, opcode 0x06 (R312). -/
def execTap (s : State) : Host.Outcome State Fault Refusal :=
  .next (tapEffect machineAlu s)

/-- TPA, opcode 0x07 (R313). -/
def execTpa (s : State) : Host.Outcome State Fault Refusal :=
  .next (tpaEffect machineAlu s)

/-- INX, opcode 0x08 (R322). -/
def execInx (s : State) : Host.Outcome State Fault Refusal :=
  .next (indexEffect machineAlu (s.x + 1) s)

/-- DEX, opcode 0x09 (R323). -/
def execDex (s : State) : Host.Outcome State Fault Refusal :=
  .next (indexEffect machineAlu (s.x - 1) s)

/-- CLV, opcode 0x0A (R315). -/
def execClv (s : State) : Host.Outcome State Fault Refusal :=
  .next (flagEffect machineAlu .clv s)

/-- SEV, opcode 0x0B (R316). -/
def execSev (s : State) : Host.Outcome State Fault Refusal :=
  .next (flagEffect machineAlu .sev s)

/-- CLC, opcode 0x0C (R317). -/
def execClc (s : State) : Host.Outcome State Fault Refusal :=
  .next (flagEffect machineAlu .clc s)

/-- SEC, opcode 0x0D (R318). -/
def execSec (s : State) : Host.Outcome State Fault Refusal :=
  .next (flagEffect machineAlu .sec s)

/-- CLI, opcode 0x0E (R319). -/
def execCli (s : State) : Host.Outcome State Fault Refusal :=
  .next (flagEffect machineAlu .cli s)

/-- SEI, opcode 0x0F (R320). -/
def execSei (s : State) : Host.Outcome State Fault Refusal :=
  .next (flagEffect machineAlu .sei s)

/-- The default entry: "a zero-effect cycle", whatever the opcode byte (47 R330). -/
def execUnrecognised (s : State) : Host.Outcome State Fault Refusal :=
  .next (skipEffect s)

end Sys2Proof.Machine
end

