-- ==== Sys2Proof/Machine/ReadModifyWrite.lean ====
section
/-! DEFINITION. The read-modify-write family (43_alu_rmw): the eleven operations with their ALU function,
operand routing and write-back (R230), the net effects (R231, R244), the cycle tables (R231, R232), and the
meaning of each of the 44 instructions. -/

namespace Sys2Proof.Machine

/-- The eleven operations (43 R230). -/
inductive RmwOp where
  | neg | com | lsr | ror | asr | asl | rol | dec | inc | tst | clr
  deriving DecidableEq, Repr

/-- The ALU function of an operation (43 R230). -/
def RmwOp.func : RmwOp → AluFunc
  | .neg => .sub
  | .com => .com
  | .lsr => .lsr
  | .ror => .ror
  | .asr => .asr
  | .asl => .asl
  | .rol => .rol
  | .dec => .dec
  | .inc => .inc
  | .tst => .sub
  | .clr => .sub

/-- The routing bit `u1`: the operand goes to `op1`, else zero does (43 R230). -/
def RmwOp.u1 : RmwOp → Bool
  | .tst | .clr => true
  | .neg | .com | .lsr | .ror | .asr | .asl | .rol | .dec | .inc => false

/-- The routing bit `u2`: the operand goes to `op2`, else zero does (43 R230). -/
def RmwOp.u2 : RmwOp → Bool
  | .tst => false
  | .neg | .com | .lsr | .ror | .asr | .asl | .rol | .dec | .inc | .clr => true

/-- Whether the result is written back (43 R230). -/
def RmwOp.stores : RmwOp → Bool
  | .tst => false
  | .neg | .com | .lsr | .ror | .asr | .asl | .rol | .dec | .inc | .clr => true

/-- The ALU's answer for an operation on the operand `v` (43 R230). -/
def RmwOp.compute (alu : Alu) (op : RmwOp) (v ccs : Byte) : AluOut :=
  alu op.func (if op.u1 then v else 0x00) (if op.u2 then v else 0x00) ccs

/-- The compute step on an accumulator, without the end of the instruction (43 R231). -/
def rmwAccFire (alu : Alu) (op : RmwOp) (acc : Acc) (s : State) : State :=
  let out := op.compute alu (s.acc acc) s.ccs
  if op.stores then (s.setAcc acc out.result).setCcs out.flags else s.setCcs out.flags

/-- The net effect of an inherent instruction at `PC = p` (43 R231). -/
def rmwAccEffect (alu : Alu) (op : RmwOp) (acc : Acc) (s : State) : State :=
  (rmwAccFire alu op acc s).endInstr (s.pc + 1)

/-- The net effect of a memory-mode instruction at `PC = p` (43 R244). `DOUT` is loaded for TST too, as the
cycle table R232 says (log 13). -/
def rmwMemEffect (alu : Alu) (op : RmwOp) (o : MemOperand) (s : State) : State :=
  let ea := o.ea s
  let out := op.compute alu (s.mem.read ea) s.ccs
  let mem := if op.stores then s.mem.write ea out.result else s.mem
  (((((s.setMem mem).setCcs out.flags).setTmp8 out.result).setTmp16 ea).setDout out.result).endInstr (s.pc + o.length)

/-- The compute cycle of the memory modes: result in `TMP8`, next period dead (43 R232). -/
def rmwComputeCycle (alu : Alu) (op : RmwOp) (s : State) : State :=
  let out := op.compute alu s.din s.ccs
  { s.tick with tmp8 := out.result, ccs := out.flags, addr := s.tmp16, rw := true, vma := false }

/-- The dead cycle of the memory modes: the write staged, or for TST another dead read (43 R232). -/
def rmwStageCycle (op : RmwOp) (s : State) : State :=
  { s.tick with addr := s.tmp16, dout := s.tmp8, rw := !op.stores, vma := op.stores }

/-- The handler's cycles (43 R231, R232), by `MODE` (30_encoding R93) and `CYCLE`; a cycle the table does
not have ends the instruction (93 U17, log 14). -/
def rmwPeriod (alu : Alu) (op : RmwOp) (s : State) : State :=
  match s.mode.toNat, s.cycle.toNat with
  | 0, 1 => (rmwAccFire alu op .A s).endInstr s.pc
  | 1, 1 => (rmwAccFire alu op .B s).endInstr s.pc
  | 2, 1 => indexedCycle1 s
  | 2, 2 => indexedCycle2 s
  | 2, 3 => indexedCycle3 false s
  | 2, 4 => rmwComputeCycle alu op s
  | 2, 5 => rmwStageCycle op s
  | 2, 6 => s.endInstr s.pc
  | 3, 1 => extendedCycle1 s
  | 3, 2 => extendedCycle2 false s
  | 3, 3 => rmwComputeCycle alu op s
  | 3, 4 => rmwStageCycle op s
  | 3, 5 => s.endInstr s.pc
  | _, _ => s.endInstr s.pc

/-! ## The instructions -/

/-- NEGA, opcode 0x40 (R233). -/
def execNega (s : State) : Host.Outcome State Fault Refusal :=
  .next (rmwAccEffect machineAlu .neg .A s)

/-- COMA, opcode 0x43 (R234). -/
def execComa (s : State) : Host.Outcome State Fault Refusal :=
  .next (rmwAccEffect machineAlu .com .A s)

/-- LSRA, opcode 0x44 (R235). -/
def execLsra (s : State) : Host.Outcome State Fault Refusal :=
  .next (rmwAccEffect machineAlu .lsr .A s)

/-- RORA, opcode 0x46 (R236). -/
def execRora (s : State) : Host.Outcome State Fault Refusal :=
  .next (rmwAccEffect machineAlu .ror .A s)

/-- ASRA, opcode 0x47 (R237). -/
def execAsra (s : State) : Host.Outcome State Fault Refusal :=
  .next (rmwAccEffect machineAlu .asr .A s)

/-- ASLA, opcode 0x48 (R238). -/
def execAsla (s : State) : Host.Outcome State Fault Refusal :=
  .next (rmwAccEffect machineAlu .asl .A s)

/-- ROLA, opcode 0x49 (R239). -/
def execRola (s : State) : Host.Outcome State Fault Refusal :=
  .next (rmwAccEffect machineAlu .rol .A s)

/-- DECA, opcode 0x4A (R240). -/
def execDeca (s : State) : Host.Outcome State Fault Refusal :=
  .next (rmwAccEffect machineAlu .dec .A s)

/-- INCA, opcode 0x4C (R241). -/
def execInca (s : State) : Host.Outcome State Fault Refusal :=
  .next (rmwAccEffect machineAlu .inc .A s)

/-- TSTA, opcode 0x4D (R242). -/
def execTsta (s : State) : Host.Outcome State Fault Refusal :=
  .next (rmwAccEffect machineAlu .tst .A s)

/-- CLRA, opcode 0x4F (R243). -/
def execClra (s : State) : Host.Outcome State Fault Refusal :=
  .next (rmwAccEffect machineAlu .clr .A s)

/-- NEGB, opcode 0x50 (R233). -/
def execNegb (s : State) : Host.Outcome State Fault Refusal :=
  .next (rmwAccEffect machineAlu .neg .B s)

/-- COMB, opcode 0x53 (R234). -/
def execComb (s : State) : Host.Outcome State Fault Refusal :=
  .next (rmwAccEffect machineAlu .com .B s)

/-- LSRB, opcode 0x54 (R235). -/
def execLsrb (s : State) : Host.Outcome State Fault Refusal :=
  .next (rmwAccEffect machineAlu .lsr .B s)

/-- RORB, opcode 0x56 (R236). -/
def execRorb (s : State) : Host.Outcome State Fault Refusal :=
  .next (rmwAccEffect machineAlu .ror .B s)

/-- ASRB, opcode 0x57 (R237). -/
def execAsrb (s : State) : Host.Outcome State Fault Refusal :=
  .next (rmwAccEffect machineAlu .asr .B s)

/-- ASLB, opcode 0x58 (R238). -/
def execAslb (s : State) : Host.Outcome State Fault Refusal :=
  .next (rmwAccEffect machineAlu .asl .B s)

/-- ROLB, opcode 0x59 (R239). -/
def execRolb (s : State) : Host.Outcome State Fault Refusal :=
  .next (rmwAccEffect machineAlu .rol .B s)

/-- DECB, opcode 0x5A (R240). -/
def execDecb (s : State) : Host.Outcome State Fault Refusal :=
  .next (rmwAccEffect machineAlu .dec .B s)

/-- INCB, opcode 0x5C (R241). -/
def execIncb (s : State) : Host.Outcome State Fault Refusal :=
  .next (rmwAccEffect machineAlu .inc .B s)

/-- TSTB, opcode 0x5D (R242). -/
def execTstb (s : State) : Host.Outcome State Fault Refusal :=
  .next (rmwAccEffect machineAlu .tst .B s)

/-- CLRB, opcode 0x5F (R243). -/
def execClrb (s : State) : Host.Outcome State Fault Refusal :=
  .next (rmwAccEffect machineAlu .clr .B s)

/-- NEG IDX, opcode 0x60 (R233). -/
def execNegIdx (ff : Byte) (s : State) : Host.Outcome State Fault Refusal :=
  .next (rmwMemEffect machineAlu .neg (.idx ff) s)

/-- COM IDX, opcode 0x63 (R234). -/
def execComIdx (ff : Byte) (s : State) : Host.Outcome State Fault Refusal :=
  .next (rmwMemEffect machineAlu .com (.idx ff) s)

/-- LSR IDX, opcode 0x64 (R235). -/
def execLsrIdx (ff : Byte) (s : State) : Host.Outcome State Fault Refusal :=
  .next (rmwMemEffect machineAlu .lsr (.idx ff) s)

/-- ROR IDX, opcode 0x66 (R236). -/
def execRorIdx (ff : Byte) (s : State) : Host.Outcome State Fault Refusal :=
  .next (rmwMemEffect machineAlu .ror (.idx ff) s)

/-- ASR IDX, opcode 0x67 (R237). -/
def execAsrIdx (ff : Byte) (s : State) : Host.Outcome State Fault Refusal :=
  .next (rmwMemEffect machineAlu .asr (.idx ff) s)

/-- ASL IDX, opcode 0x68 (R238). -/
def execAslIdx (ff : Byte) (s : State) : Host.Outcome State Fault Refusal :=
  .next (rmwMemEffect machineAlu .asl (.idx ff) s)

/-- ROL IDX, opcode 0x69 (R239). -/
def execRolIdx (ff : Byte) (s : State) : Host.Outcome State Fault Refusal :=
  .next (rmwMemEffect machineAlu .rol (.idx ff) s)

/-- DEC IDX, opcode 0x6A (R240). -/
def execDecIdx (ff : Byte) (s : State) : Host.Outcome State Fault Refusal :=
  .next (rmwMemEffect machineAlu .dec (.idx ff) s)

/-- INC IDX, opcode 0x6C (R241). -/
def execIncIdx (ff : Byte) (s : State) : Host.Outcome State Fault Refusal :=
  .next (rmwMemEffect machineAlu .inc (.idx ff) s)

/-- TST IDX, opcode 0x6D (R242). -/
def execTstIdx (ff : Byte) (s : State) : Host.Outcome State Fault Refusal :=
  .next (rmwMemEffect machineAlu .tst (.idx ff) s)

/-- CLR IDX, opcode 0x6F (R243). -/
def execClrIdx (ff : Byte) (s : State) : Host.Outcome State Fault Refusal :=
  .next (rmwMemEffect machineAlu .clr (.idx ff) s)

/-- NEG EXT, opcode 0x70 (R233). -/
def execNegExt (hhll : Word) (s : State) : Host.Outcome State Fault Refusal :=
  .next (rmwMemEffect machineAlu .neg (.ext hhll) s)

/-- COM EXT, opcode 0x73 (R234). -/
def execComExt (hhll : Word) (s : State) : Host.Outcome State Fault Refusal :=
  .next (rmwMemEffect machineAlu .com (.ext hhll) s)

/-- LSR EXT, opcode 0x74 (R235). -/
def execLsrExt (hhll : Word) (s : State) : Host.Outcome State Fault Refusal :=
  .next (rmwMemEffect machineAlu .lsr (.ext hhll) s)

/-- ROR EXT, opcode 0x76 (R236). -/
def execRorExt (hhll : Word) (s : State) : Host.Outcome State Fault Refusal :=
  .next (rmwMemEffect machineAlu .ror (.ext hhll) s)

/-- ASR EXT, opcode 0x77 (R237). -/
def execAsrExt (hhll : Word) (s : State) : Host.Outcome State Fault Refusal :=
  .next (rmwMemEffect machineAlu .asr (.ext hhll) s)

/-- ASL EXT, opcode 0x78 (R238). -/
def execAslExt (hhll : Word) (s : State) : Host.Outcome State Fault Refusal :=
  .next (rmwMemEffect machineAlu .asl (.ext hhll) s)

/-- ROL EXT, opcode 0x79 (R239). -/
def execRolExt (hhll : Word) (s : State) : Host.Outcome State Fault Refusal :=
  .next (rmwMemEffect machineAlu .rol (.ext hhll) s)

/-- DEC EXT, opcode 0x7A (R240). -/
def execDecExt (hhll : Word) (s : State) : Host.Outcome State Fault Refusal :=
  .next (rmwMemEffect machineAlu .dec (.ext hhll) s)

/-- INC EXT, opcode 0x7C (R241). -/
def execIncExt (hhll : Word) (s : State) : Host.Outcome State Fault Refusal :=
  .next (rmwMemEffect machineAlu .inc (.ext hhll) s)

/-- TST EXT, opcode 0x7D (R242). -/
def execTstExt (hhll : Word) (s : State) : Host.Outcome State Fault Refusal :=
  .next (rmwMemEffect machineAlu .tst (.ext hhll) s)

/-- CLR EXT, opcode 0x7F (R243). -/
def execClrExt (hhll : Word) (s : State) : Host.Outcome State Fault Refusal :=
  .next (rmwMemEffect machineAlu .clr (.ext hhll) s)

end Sys2Proof.Machine
end

