-- ==== Sys2Proof/Machine/Reset.lean ====
section
/-! DEFINITION. The reset input and the reset sequencer (70_reset_and_hazards R360 to R364). Reset is the
one event that takes the core away from its program; it saves nothing (60_exceptions R344). -/

namespace Sys2Proof.Machine

/-- A clock edge with `rst = 1`: the state of 10_state R41 whatever the current state, a write that is on
the bus still committed (10_state R42, 60 R345). The unspecified registers take a free draw (log 5). -/
def State.resetEdge (s : State) : State :=
  State.atReset (Config.resetDraw s.draws) s.committedMem s.rstIn (s.draws + 1)

/-- State 0: assert 0xFFFE (70 R361). -/
def sequencer0 (s : State) : State := { s with addr := 0xFFFE, rw := true, vma := true, rst := 1 }

/-- State 1: capture the vector's high byte, assert 0xFFFF (70 R362). -/
def sequencer1 (s : State) : State :=
  { s with tmp8 := s.din, addr := 0xFFFF, rw := true, vma := true, rst := 2 }

/-- State 2: end of instruction with the vector (70 R363). -/
def sequencer2 (s : State) : State := ({ s with rst := 3 } : State).endInstr (joinBytes s.tmp8 s.din)

/-- One period of the reset sequencer, which runs while `RST != 3` (70 R360). -/
def sequencerPeriod (s : State) : State :=
  match s.rst.toNat with
  | 0 => sequencer0 s
  | 1 => sequencer1 s
  | _ => sequencer2 s

end Sys2Proof.Machine
end

