-- ==== Sys2Proof/Machine/Store.lean ====
section
/-! DEFINITION. The store handler (45_store): the net effect (R292), the cycle tables (R291), and the
meaning of each of the 6 stores. -/

namespace Sys2Proof.Machine

/-- The flags a store leaves: those of `ALU(LD, 0, acc, CCS)` (45 R291, R292). -/
def storeFlags (alu : Alu) (acc : Acc) (s : State) : Byte := (alu .ld 0x00 (s.acc acc) s.ccs).flags

/-- The net effect of a store at `PC = p` (45 R292). -/
def storeEffect (alu : Alu) (acc : Acc) (o : StoreOperand) (s : State) : State :=
  let ea := o.ea s
  let v := s.acc acc
  ((((s.setMem (s.mem.write ea v)).setCcs (storeFlags alu acc s)).setTmp16 ea).setDout v).endInstr (s.pc + o.length)

/-- The dead cycle before the write: the write staged (45 R291). -/
def storeStageCycle (acc : Acc) (s : State) : State :=
  { s.tick with addr := s.tmp16, dout := s.acc acc, rw := false }

/-- The final cycle: the write is on the bus, the flags are updated, the instruction ends (45 R291). -/
def storeFinalCycle (alu : Alu) (acc : Acc) (s : State) : State :=
  (s.setCcs (storeFlags alu acc s)).endInstr s.pc

/-- The handler's cycles (45 R291), by `MODE` (30_encoding R92) and `CYCLE`; a cycle the table does not
have ends the instruction (93 U17, log 14). -/
def storePeriod (alu : Alu) (s : State) : State :=
  let acc : Acc := if s.instr.getLsbD 6 then .B else .A
  match s.mode.toNat, s.cycle.toNat with
  | 1, 1 => directCycle1 true s
  | 1, 2 => storeStageCycle acc s
  | 1, 3 => storeFinalCycle alu acc s
  | 2, 1 => indexedCycle1 s
  | 2, 2 => indexedCycle2 s
  | 2, 3 => indexedCycle3 true s
  | 2, 4 => storeStageCycle acc s
  | 2, 5 => storeFinalCycle alu acc s
  | 3, 1 => extendedCycle1 s
  | 3, 2 => extendedCycle2 true s
  | 3, 3 => storeStageCycle acc s
  | 3, 4 => storeFinalCycle alu acc s
  | _, _ => s.endInstr s.pc

/-! ## The instructions -/

/-- STAA DIR, opcode 0x97 (R292). -/
def execStaaDir (dd : Byte) (s : State) : Host.Outcome State Fault Refusal :=
  .next (storeEffect machineAlu .A (.dir dd) s)

/-- STAA IDX, opcode 0xA7 (R292). -/
def execStaaIdx (ff : Byte) (s : State) : Host.Outcome State Fault Refusal :=
  .next (storeEffect machineAlu .A (.idx ff) s)

/-- STAA EXT, opcode 0xB7 (R292). -/
def execStaaExt (hhll : Word) (s : State) : Host.Outcome State Fault Refusal :=
  .next (storeEffect machineAlu .A (.ext hhll) s)

/-- STAB DIR, opcode 0xD7 (R292). -/
def execStabDir (dd : Byte) (s : State) : Host.Outcome State Fault Refusal :=
  .next (storeEffect machineAlu .B (.dir dd) s)

/-- STAB IDX, opcode 0xE7 (R292). -/
def execStabIdx (ff : Byte) (s : State) : Host.Outcome State Fault Refusal :=
  .next (storeEffect machineAlu .B (.idx ff) s)

/-- STAB EXT, opcode 0xF7 (R292). -/
def execStabExt (hhll : Word) (s : State) : Host.Outcome State Fault Refusal :=
  .next (storeEffect machineAlu .B (.ext hhll) s)

end Sys2Proof.Machine
end

