-- ==== Sys2Proof/Machine/Clock.lean ====
section
/-! DEFINITION. The machine clock by clock: the decode table and the dispatcher (30_encoding R98, 40 R127),
fetch (40 R126), and one clock period with its order of evaluation (00_scope R12, 40 R120, R121). This is
the level the spec is written at; `step` (Machine/Step.lean) runs whole instructions over it. -/

namespace Sys2Proof.Machine

/-! ## The decode table -/

/-- The handlers of the decode table (30_encoding R98). -/
inductive Handler where
  | noOperation
  | transferTap
  | transferTpa
  | indexStep
  | flag
  | branch
  | readModifyWrite (op : RmwOp)
  | jump
  | aluRead (op : ReadOp)
  | store
  | unrecognised
  deriving DecidableEq, Repr

/-- An entry of the decode table: `INSTR & mask == pattern`. -/
structure DecodeRow where
  mask : Byte
  pattern : Byte
  handler : Handler
  deriving DecidableEq, Repr

/-- Entries 1 to 32 of the decode table, in its order (30_encoding R98). -/
def decodeTable : List DecodeRow :=
  [⟨0xFF, 0x01, .noOperation⟩, ⟨0xFF, 0x06, .transferTap⟩, ⟨0xFF, 0x07, .transferTpa⟩, ⟨0xFE, 0x08, .indexStep⟩,
    ⟨0xFE, 0x0A, .flag⟩, ⟨0xFE, 0x0C, .flag⟩, ⟨0xFE, 0x0E, .flag⟩, ⟨0xF0, 0x20, .branch⟩] ++
  [⟨0xCF, 0x40, .readModifyWrite .neg⟩, ⟨0xCF, 0x43, .readModifyWrite .com⟩, ⟨0xCF, 0x44, .readModifyWrite .lsr⟩,
    ⟨0xCF, 0x46, .readModifyWrite .ror⟩, ⟨0xCF, 0x47, .readModifyWrite .asr⟩, ⟨0xCF, 0x48, .readModifyWrite .asl⟩,
    ⟨0xCF, 0x49, .readModifyWrite .rol⟩, ⟨0xCF, 0x4A, .readModifyWrite .dec⟩, ⟨0xCF, 0x4C, .readModifyWrite .inc⟩,
    ⟨0xCF, 0x4D, .readModifyWrite .tst⟩, ⟨0xEF, 0x6E, .jump⟩, ⟨0xCF, 0x4F, .readModifyWrite .clr⟩] ++
  [⟨0x8F, 0x86, .aluRead .lda⟩, ⟨0x8F, 0x80, .aluRead .sub⟩, ⟨0x8F, 0x81, .aluRead .cmp⟩, ⟨0x8F, 0x82, .aluRead .sbc⟩,
    ⟨0x8F, 0x84, .aluRead .and⟩, ⟨0x8F, 0x85, .aluRead .bit⟩, ⟨0x9F, 0x97, .store⟩, ⟨0xBF, 0xA7, .store⟩,
    ⟨0x8F, 0x88, .aluRead .eor⟩, ⟨0x8F, 0x89, .aluRead .adc⟩, ⟨0x8F, 0x8A, .aluRead .ora⟩, ⟨0x8F, 0x8B, .aluRead .add⟩]

/-- First match wins; entry 33, the default, matches everything (30_encoding R98, R99). -/
def dispatch (instr : Byte) : Handler :=
  match decodeTable.find? (fun r => instr &&& r.mask == r.pattern) with
  | some r => r.handler
  | none => .unrecognised

/-! ## Fetch and dispatch -/

/-- Cycle 0 of every instruction (40 R126). -/
def fetchPeriod (s : State) : State :=
  { s.tick with instr := s.din, rw := true, pc := s.pc + 1, addr := s.pc + 1 }

/-- Cycles 1 and up: the handler `INSTR` selects (40 R127). -/
def handlerPeriod (alu : Alu) (s : State) : State :=
  match dispatch s.instr with
  | .noOperation => oneCyclePeriod (fun s => s) s
  | .transferTap => oneCyclePeriod (tapFire alu) s
  | .transferTpa => oneCyclePeriod (tpaFire alu) s
  | .indexStep => indexPeriod alu s
  | .flag => oneCyclePeriod (flagFire alu (flagFunc s.instr)) s
  | .branch => branchPeriod s
  | .readModifyWrite op => rmwPeriod alu op s
  | .jump => jumpPeriod s
  | .aluRead op => readPeriod alu op s
  | .store => storePeriod alu s
  | .unrecognised => oneCyclePeriod (fun s => s) s

/-- What the core computes in a period with `rst = 0` (40 R121): the sequencer while `RST != 3`, fetch in
cycle 0, the dispatcher from cycle 1 on. -/
def corePeriod (alu : Alu) (s : State) : State :=
  if s.rst ≠ 3 then sequencerPeriod s
  else if s.cycle = 0 then fetchPeriod s
  else handlerPeriod alu s

/-- One clock period of an `n6800 CORE` with the ALU `alu`, `rstLevel` being the level of the reset input at
the edge that ends it (00_scope R12, 10_state R42): all registers are committed together, and the memory
commits the write that was on the bus during the period (40 R120, 20 R63). -/
def clockWith (alu : Alu) (rstLevel : Bool) (s : State) : State :=
  if rstLevel then s.resetEdge else (corePeriod alu s).setMem s.committedMem

/-- One clock period of this machine. -/
def clock (rstLevel : Bool) (s : State) : State := clockWith machineAlu rstLevel s

/-- `n` clock periods with the reset input low. -/
def clocks : Nat → State → State
  | 0, s => s
  | n + 1, s => clocks n (clock false s)

end Sys2Proof.Machine
end

