-- ==== Sys2Proof/Machine/Step.lean ====
section
/-! DEFINITION. One step of the machine (log 1). With a level of the reset input still to come the step is
one clock period that takes it; with the input low for good, a step from an instruction boundary runs the
whole instruction at the program counter (40 R136: "A model may therefore execute one instruction per
step"), and a step from anywhere else is one clock period. -/

namespace Sys2Proof.Machine

/-- One step. -/
def step (s : State) : Host.Outcome State Fault Refusal :=
  match s.rstIn with
  | level :: rest => .next (clock level { s with rstIn := rest })
  | [] =>
    if s.atBoundary then exec s.nextInstr (s.setInstr (s.mem.read s.pc))
    else .next (clock false s)

/-- The state with a table word as the very next instruction: an instruction boundary at the same `PC`, the
reset input low, the word's bytes at `PC`, `PC + 1`, `PC + 2` (log 18). -/
def State.withFetchWord (s : State) (nbits w : Nat) : State :=
  { s with
    rst := 3, cycle := 0, addr := s.pc, rw := true, vma := true, rstIn := [],
    mem := s.mem.placeTableWord s.pc nbits w }

end Sys2Proof.Machine
end

