-- ==== Sys2Proof/Machine/Bus.lean ====
section
/-! DEFINITION. Timing and bus activity: the number of periods of each instruction (40 R140), the bus
signals of a period (20_memory R61, 10_state R43), and the transactions the source's properties count
(20_memory R72, R79). -/

namespace Sys2Proof

/-- The number of clock periods an instruction takes, the fetch included (40 R140). -/
def Instr.periods : Instr → Nat
  | .nop | .tap | .tpa | .clv | .sev | .clc | .sec | .cli | .sei | .nega | .coma | .lsra | .rora
  | .asra | .asla | .rola | .deca | .inca | .tsta | .clra | .negb | .comb | .lsrb | .rorb | .asrb
  | .aslb | .rolb | .decb | .incb | .tstb | .clrb
  | .unrecognised _ => 2
  | .jmpExt _ | .subaImm _ | .cmpaImm _ | .sbcaImm _ | .andaImm _ | .bitaImm _ | .ldaaImm _
  | .eoraImm _ | .adcaImm _ | .oraaImm _ | .addaImm _ | .subaDir _ | .cmpaDir _ | .sbcaDir _
  | .andaDir _ | .bitaDir _ | .ldaaDir _ | .eoraDir _ | .adcaDir _ | .oraaDir _ | .addaDir _
  | .subbImm _ | .cmpbImm _ | .sbcbImm _ | .andbImm _ | .bitbImm _ | .ldabImm _ | .eorbImm _
  | .adcbImm _ | .orabImm _ | .addbImm _ | .subbDir _ | .cmpbDir _ | .sbcbDir _ | .andbDir _
  | .bitbDir _ | .ldabDir _ | .eorbDir _ | .adcbDir _ | .orabDir _ | .addbDir _ => 3
  | .inx | .dex | .bra _ | .brn _ | .bhi _ | .bls _ | .bcc _ | .bcs _ | .bne _ | .beq _ | .bvc _
  | .bvs _ | .bpl _ | .bmi _ | .bge _ | .blt _ | .bgt _ | .ble _ | .jmpIdx _ | .staaDir _
  | .subaExt _ | .cmpaExt _ | .sbcaExt _ | .andaExt _ | .bitaExt _ | .ldaaExt _ | .eoraExt _
  | .adcaExt _ | .oraaExt _ | .addaExt _ | .stabDir _ | .subbExt _ | .cmpbExt _ | .sbcbExt _
  | .andbExt _ | .bitbExt _ | .ldabExt _ | .eorbExt _ | .adcbExt _ | .orabExt _ | .addbExt _ => 4
  | .subaIdx _ | .cmpaIdx _ | .sbcaIdx _ | .andaIdx _ | .bitaIdx _ | .ldaaIdx _ | .eoraIdx _
  | .adcaIdx _ | .oraaIdx _ | .addaIdx _ | .staaExt _ | .subbIdx _ | .cmpbIdx _ | .sbcbIdx _
  | .andbIdx _ | .bitbIdx _ | .ldabIdx _ | .eorbIdx _ | .adcbIdx _ | .orabIdx _ | .addbIdx _
  | .stabExt _ => 5
  | .negExt _ | .comExt _ | .lsrExt _ | .rorExt _ | .asrExt _ | .aslExt _ | .rolExt _ | .decExt _
  | .incExt _ | .tstExt _ | .clrExt _ | .staaIdx _ | .stabIdx _ => 6
  | .negIdx _ | .comIdx _ | .lsrIdx _ | .rorIdx _ | .asrIdx _ | .aslIdx _ | .rolIdx _ | .decIdx _
  | .incIdx _ | .tstIdx _ | .clrIdx _ => 7

namespace Machine

/-- What the bus carries in a period. `data` is the byte read or written, none in a dead cycle (20_memory
R61, R64). -/
structure BusPeriod where
  addr : Word
  rw : Bool
  vma : Bool
  data : Option Byte
  deriving DecidableEq, Repr

/-- The bus signals of the current period. -/
def State.bus (s : State) : BusPeriod where
  addr := s.addr
  rw := s.rw
  vma := s.vma
  data := if s.vma then some (if s.rw then s.din else s.dout) else none

/-- The states of the next `n` periods, the current one first, the reset input low. -/
def periodStates : Nat → State → List State
  | 0, _ => []
  | n + 1, s => s :: periodStates n (clock false s)

/-- The bus trace of the next `n` periods, the reset input low (10_state R43). -/
def busTrace (n : Nat) (s : State) : List BusPeriod := (periodStates n s).map State.bus

/-- A valid read whose data the core ignores (20_memory R72): cycle 1 of every one-byte instruction,
cycle 2 of an ALU-read in immediate mode, cycles 2 and 3 of a branch. -/
def State.discardsRead (s : State) : Bool :=
  match dispatch s.instr with
  | .noOperation | .transferTap | .transferTpa | .indexStep | .flag | .unrecognised => s.cycle == 1
  | .branch => s.cycle == 2 || s.cycle == 3
  | .readModifyWrite _ => (s.mode == 0 || s.mode == 1) && s.cycle == 1
  | .aluRead _ => s.mode == 0 && s.cycle == 2
  | .jump | .store => false

/-- The read of the current period that the core would report to the formal hook (20_memory R79): a valid
read of an operand byte or of data; not the fetch, not a discarded read, not the reset vector. -/
def State.reportedRead (s : State) : Option (Word × Byte) :=
  if s.rst == 3 && s.cycle != 0 && s.rw && s.vma && !s.discardsRead then some (s.addr, s.din) else none

/-- The write of the current period that the core would report (20_memory R79). -/
def State.reportedWrite (s : State) : Option (Word × Byte) :=
  if !s.rw && s.vma then some (s.addr, s.dout) else none

/-- The reported reads of the next `n` periods, in bus order. -/
def reportedReads (n : Nat) (s : State) : List (Word × Byte) := (periodStates n s).filterMap State.reportedRead

/-- The reported writes of the next `n` periods, in bus order. -/
def reportedWrites (n : Nat) (s : State) : List (Word × Byte) := (periodStates n s).filterMap State.reportedWrite

end Machine

end Sys2Proof
end

