-- ==== Sys2Proof/Safety.lean ====
section
/-! DEFINITION. The terms claims are made in: the end cycle and the bus levels of every handler (40 R140,
20_memory R64, 92 D11, D15, D16, D18), the net effect a handler has for an opcode byte, the invariant of
every run, and the optional run predicate the spec offers for programs (60_exceptions R342). -/

namespace Sys2Proof.Machine

/-- The cycle that ends the instruction (40 R140), by handler and `MODE`. -/
def Handler.endCycle : Handler → Nat → Nat
  | .noOperation, _ | .transferTap, _ | .transferTpa, _ | .flag, _ | .unrecognised, _ => 1
  | .indexStep, _ | .branch, _ => 3
  | .readModifyWrite _, mode => if mode = 2 then 6 else if mode = 3 then 5 else 1
  | .jump, mode => if mode = 2 then 3 else 2
  | .aluRead _, mode => if mode = 2 then 4 else if mode = 3 then 3 else 2
  | .store, mode => if mode = 2 then 5 else if mode = 3 then 4 else 3

/-- Whether a cycle is dead on the bus (`VMA = 0`; 92 D11), by handler, `MODE` and cycle. -/
def Handler.deadCycle : Handler → Nat → Nat → Bool
  | .noOperation, _, _ | .transferTap, _, _ | .transferTpa, _, _ | .flag, _, _ | .unrecognised, _, _ => false
  | .branch, _, _ => false
  | .indexStep, _, k => k == 2 || k == 3
  | .jump, mode, k => mode == 2 && (k == 2 || k == 3)
  | .aluRead _, mode, k => mode == 2 && (k == 2 || k == 3)
  | .store, mode, k =>
    (mode == 1 && k == 2) || (mode == 3 && k == 3) || (mode == 2 && (k == 2 || k == 3 || k == 4))
  | .readModifyWrite op, mode, k =>
    (mode == 3 && (k == 4 || (k == 5 && !op.stores))) ||
    (mode == 2 && (k == 2 || k == 3 || k == 5 || (k == 6 && !op.stores)))

/-- Whether a cycle is a write on the bus (`RW = 0`; 45 R291, 43 R232). -/
def Handler.writeCycle : Handler → Nat → Nat → Bool
  | .store, mode, k => (mode == 1 && k == 3) || (mode == 2 && k == 5) || (mode == 3 && k == 4)
  | .readModifyWrite op, mode, k => op.stores && ((mode == 2 && k == 6) || (mode == 3 && k == 5))
  | .noOperation, _, _ | .transferTap, _, _ | .transferTpa, _, _ | .flag, _, _ | .unrecognised, _, _ => false
  | .branch, _, _ | .indexStep, _, _ | .jump, _, _ | .aluRead _, _, _ => false

/-- Which shared effect an instruction has, with its operands. -/
inductive Action where
  | skip
  | tap
  | tpa
  | flag (func : AluFunc)
  | index (up : Bool)
  | branch (sel : BitVec 3) (inv : Bool) (rr : Byte)
  | rmwAcc (op : RmwOp) (acc : Acc)
  | rmwMem (op : RmwOp) (o : MemOperand)
  | jump (o : MemOperand)
  | read (op : ReadOp) (acc : Acc) (o : ReadOperand)
  | store (acc : Acc) (o : StoreOperand)
  deriving DecidableEq, Repr

/-- The effect. -/
def Action.effect : Action → State → State
  | .skip, s => skipEffect s
  | .tap, s => tapEffect machineAlu s
  | .tpa, s => tpaEffect machineAlu s
  | .flag func, s => flagEffect machineAlu func s
  | .index up, s => indexEffect machineAlu (if up then s.x + 1 else s.x - 1) s
  | .branch sel inv rr, s => branchEffect sel inv rr s
  | .rmwAcc op acc, s => rmwAccEffect machineAlu op acc s
  | .rmwMem op o, s => rmwMemEffect machineAlu op o s
  | .jump o, s => jumpEffect o s
  | .read op acc o, s => readEffect machineAlu op acc o s
  | .store acc o, s => storeEffect machineAlu acc o s

/-- The action of an opcode byte, from the handler the dispatcher selects and the fields it reads
(30_encoding R91 to R94). -/
def Handler.action (h : Handler) (b0 b1 b2 : Byte) : Action :=
  let mode := (b0.extractLsb' 4 2).toNat
  let acc : Acc := if b0.getLsbD 6 then .B else .A
  let memOperand : MemOperand := if mode = 2 then .idx b1 else .ext (joinBytes b1 b2)
  match h with
  | .noOperation | .unrecognised => .skip
  | .transferTap => .tap
  | .transferTpa => .tpa
  | .indexStep => .index (!b0.getLsbD 0)
  | .flag => .flag (flagFunc b0)
  | .branch => .branch (b0.extractLsb' 1 3) (b0.getLsbD 0) b1
  | .readModifyWrite op => if mode = 0 then .rmwAcc op .A else if mode = 1 then .rmwAcc op .B else .rmwMem op memOperand
  | .jump => .jump memOperand
  | .aluRead op =>
    .read op acc (match mode with | 0 => .imm b1 | 1 => .dir b1 | 2 => .idx b1 | _ => .ext (joinBytes b1 b2))
  | .store => .store acc (match mode with | 1 => .dir b1 | 2 => .idx b1 | _ => .ext (joinBytes b1 b2))

/-- What holds in every period of a run: memory in canonical form; during the reset sequence `CYCLE = 0` and
the bus reads, dead in the first period only; at cycle 0 the boundary invariant (10_state R45); in a later
cycle one the handler has, with the bus levels its table gives. -/
abbrev State.Inv (s : State) : Prop :=
  s.mem.wf = true ∧
  (s.rst ≠ 3 → s.cycle = 0 ∧ s.rw = true ∧ s.vma = (s.rst != 0)) ∧
  (s.rst = 3 → s.cycle = 0 → s.addr = s.pc ∧ s.rw = true ∧ s.vma = true) ∧
  (s.rst = 3 → s.cycle ≠ 0 →
    s.cycle.toNat ≤ (dispatch s.instr).endCycle s.mode.toNat ∧
    s.vma = !(dispatch s.instr).deadCycle s.mode.toNat s.cycle.toNat ∧
    s.rw = !(dispatch s.instr).writeCycle s.mode.toNat s.cycle.toNat)

/-- The run predicate of 47_misc R330: none of the next `n` steps begins an unrecognised opcode. It changes
no machine; a claim may take it as a hypothesis. -/
def fetchesOnlyRecognised : Nat → State → Bool
  | 0, _ => true
  | n + 1, s =>
    !(s.atBoundary && unrecognisedOpcodes.contains (s.mem.read s.pc)) &&
    match step s with
    | .next t => fetchesOnlyRecognised n t
    | .refused _ => false

end Sys2Proof.Machine
end

