-- ==== Sys2Proof/Certificates/Slice0/Obligations.lean ====
section
/-! DEFINITION. The statements for the provers. The helpers under `Sys2Proof.Claims` say what a statement
expects in arithmetic of their own (Nat, Int, whole states), not through the definitions of the meanings.
Where a statement rests on the reference ALU or on the opcode map it rests on the spec's own choice, not on
the source: log 9 (ALU), log 10 (opcodes), log 11 (flag positions). -/

namespace Sys2Proof.Claims

open Sys2Proof.Machine

/-! ## Expected values -/

/-- A flag vector `1 1 H I N Z V C` (10_state R31). -/
def flagVector (h i n z v c : Bool) : Byte :=
  BitVec.ofNat 8 (192 + 32 * h.toNat + 16 * i.toNat + 8 * n.toNat + 4 * z.toNat + 2 * v.toNat + c.toNat)

/-- The flags of a result `r` with `V = v` and `C = c`: `N` its sign, `Z` whether it is zero, `H` and `I` kept. -/
def flagsOf (ccs r : Byte) (v c : Bool) : Byte :=
  flagVector (ccs.getLsbD 5) (ccs.getLsbD 4) (decide (128 ≤ r.toNat)) (decide (r.toNat = 0)) v c

/-- A signed result does not fit in 8 bits (41 R170). -/
def overflows (n : Int) : Bool := decide (n < -128) || decide (127 < n)

/-- The carry flag as a number. -/
def carry (ccs : Byte) : Nat := (ccs.getLsbD 0).toNat

def sum8 (x y : Byte) (c : Nat) : Byte := BitVec.ofNat 8 (x.toNat + y.toNat + c)

/-- The flags of an addition with carry-in `c`. -/
def sumFlags (ccs x y : Byte) (c : Nat) : Byte :=
  let r := sum8 x y c
  flagVector (decide (16 ≤ x.toNat % 16 + y.toNat % 16 + c)) (ccs.getLsbD 4) (decide (128 ≤ r.toNat))
    (decide (r.toNat = 0)) (overflows (x.toInt + y.toInt + c)) (decide (256 ≤ x.toNat + y.toNat + c))

def diff8 (x y : Byte) (c : Nat) : Byte := BitVec.ofNat 8 (x.toNat + 256 - y.toNat + 256 - c)

/-- The flags of a subtraction with borrow-in `c`: `C` is the borrow. -/
def diffFlags (ccs x y : Byte) (c : Nat) : Byte :=
  flagsOf ccs (diff8 x y c) (overflows (x.toInt - y.toInt - c)) (decide (x.toNat < y.toNat + c))

/-- `X + offset` modulo 2^16. -/
def indexed (s : State) (ff : Byte) : Word := BitVec.ofNat 16 (s.x.toNat + ff.toNat)

/-- A direct-page address. -/
def direct (dd : Byte) : Word := BitVec.ofNat 16 dd.toNat

/-- The operand byte of an ALU-read operand (30_encoding R95, 40 R135). -/
def operand (s : State) : ReadOperand → Byte
  | .imm ii => ii
  | .dir dd => s.mem.read (direct dd)
  | .idx ff => s.mem.read (indexed s ff)
  | .ext hhll => s.mem.read hhll

/-! ## Expected states -/

/-- The state with the instruction ended at `t` (40 R124): all else as in `s`. -/
def endedAt (s : State) (t : Word) : State := { s with pc := t, addr := t, rw := true, vma := true, cycle := 0 }

/-- `s` with accumulator `acc` holding `r`. -/
def withAcc (s : State) : Acc → Byte → State
  | .A, r => { s with a := r }
  | .B, r => { s with b := r }

/-- What an ALU-read instruction leaves: the flags, the scratch register of its mode, `PC` past it. -/
def afterRead (s : State) (o : ReadOperand) (ccs : Byte) : State :=
  match o with
  | .imm ii => endedAt { s with ccs := ccs, tmp8 := ii } (s.pc + 2)
  | .dir dd => endedAt { s with ccs := ccs, tmp16 := direct dd } (s.pc + 2)
  | .idx ff => endedAt { s with ccs := ccs, tmp16 := indexed s ff } (s.pc + 2)
  | .ext hhll => endedAt { s with ccs := ccs, tmp16 := hhll } (s.pc + 3)

/-- `i` writes `r` to accumulator `acc` and leaves the flags `ccs`; nothing else but what `afterRead` says. -/
def readsInto (i : Instr) (acc : Acc) (s : State) (o : ReadOperand) (r ccs : Byte) : Prop :=
  exec i s = .next (withAcc (afterRead s o ccs) acc r)

/-- `i` writes no accumulator and leaves the flags `ccs`; nothing else but what `afterRead` says. -/
def readsOnly (i : Instr) (s : State) (o : ReadOperand) (ccs : Byte) : Prop := exec i s = .next (afterRead s o ccs)

/-- An inherent operation: accumulator `acc` becomes `r`, the flags become `ccs`. -/
def operatesOn (i : Instr) (acc : Acc) (s : State) (r ccs : Byte) : Prop :=
  exec i s = .next (withAcc (endedAt { s with ccs := ccs } (s.pc + 1)) acc r)

/-- The length of an indexed or extended instruction. -/
def memLength : MemOperand → Word
  | .idx _ => 2
  | .ext _ => 3

/-- The length of a direct, indexed or extended store. -/
def storeLength : StoreOperand → Word
  | .dir _ | .idx _ => 2
  | .ext _ => 3

/-- A memory operation: the byte at the effective address becomes `r` and every other byte stays; the flags
become `ccs`; `TMP8` and `DOUT` hold `r`, `TMP16` the address; nothing else changes (43 R232, R244). -/
def rewrites (i : Instr) (s : State) (o : MemOperand) (r ccs : Byte) : Prop :=
  ∃ t, exec i s = .next t ∧
    t = endedAt { s with mem := t.mem, ccs := ccs, tmp8 := r, tmp16 := o.ea s, dout := r } (s.pc + memLength o) ∧
    t.mem.read (o.ea s) = r ∧ ∀ a, a ≠ o.ea s → t.mem.read a = s.mem.read a

/-- The three kinds of form of a read-modify-write operation that stores: on A, on B, on a memory byte; `res`
and `flags` are functions of the operand before. -/
def modifies (onA onB : Instr) (onMem : MemOperand → Instr) (res : State → Byte → Byte) (flags : State → Byte → Byte) : Prop :=
  ∀ s : State,
    operatesOn onA .A s (res s s.a) (flags s s.a) ∧ operatesOn onB .B s (res s s.b) (flags s s.b) ∧
    (s.mem.wf = true → ∀ o : MemOperand,
      rewrites (onMem o) s o (res s (s.mem.read (o.ea s))) (flags s (s.mem.read (o.ea s))))

/-- `i` with displacement `rr` goes to `p + 2 + rr` when `cond` holds of the flags and to `p + 2` otherwise;
only `TMP8` and `TMP16` change besides (44 R279). -/
def branchesWhen (i : Byte → Instr) (cond : Bool → Bool → Bool → Bool → Bool) : Prop :=
  ∀ (rr : Byte) (s : State),
    let target := BitVec.ofInt 16 (s.pc.toNat + 2 + rr.toInt)
    exec (i rr) s = .next (endedAt { s with tmp8 := rr, tmp16 := target }
      (if cond (s.ccs.getLsbD 3) (s.ccs.getLsbD 2) (s.ccs.getLsbD 1) (s.ccs.getLsbD 0) then target else s.pc + 2))

/-- `i` with displacement `rr`, at `t`, goes to its target exactly when `cond` holds. -/
def takenIff (i : Byte → Instr) (t : State) (cond : Prop) : Prop :=
  ∀ rr : Byte, ∃ u, exec (i rr) t = .next u ∧
    (cond → u.pc = branchTarget t.pc rr) ∧ (¬cond → u.pc = t.pc + 2)

/-- The bytes of the instruction stream at `PC + k`. -/
def streamByte (s : State) (k : Nat) : Byte := s.mem.read (s.pc + BitVec.ofNat 16 k)

/-- A valid read, a dead period and a write, as the bus shows them. -/
def busRead (s : State) (a : Word) : BusPeriod := ⟨a, true, true, some (s.mem.read a)⟩
def busDead (a : Word) : BusPeriod := ⟨a, true, false, none⟩
def busWrite (a : Word) (v : Byte) : BusPeriod := ⟨a, false, true, some v⟩

/-- The address an instruction stores to, if it stores (43 R230, 45 R290; TST stores nothing). -/
def storeAddress (s : State) : Instr → Option Word
  | .staaDir dd | .stabDir dd => some (eaDirect dd)
  | .staaIdx ff | .stabIdx ff => some (eaIndexed ff s)
  | .staaExt hhll | .stabExt hhll => some hhll
  | .negIdx ff | .comIdx ff | .lsrIdx ff | .rorIdx ff | .asrIdx ff | .aslIdx ff | .rolIdx ff | .decIdx ff
  | .incIdx ff | .clrIdx ff => some (eaIndexed ff s)
  | .negExt hhll | .comExt hhll | .lsrExt hhll | .rorExt hhll | .asrExt hhll | .aslExt hhll | .rolExt hhll
  | .decExt hhll | .incExt hhll | .clrExt hhll => some hhll
  | _ => none

/-- Where an instruction that is neither a branch nor a jump continues: past its own bytes. -/
def sequential : Instr → Bool
  | .jmpIdx _ | .jmpExt _ => false
  | .bra _ | .brn _ | .bhi _ | .bls _ | .bcc _ | .bcs _ | .bne _ | .beq _ | .bvc _ | .bvs _ | .bpl _ | .bmi _
  | .bge _ | .blt _ | .bgt _ | .ble _ => false
  | _ => true

/-- The cycles in which a handler selects an ALU function other than NONE (10_state R32). -/
def aluCycle : Handler → Nat → Nat → Bool
  | .transferTap, _, k | .transferTpa, _, k | .flag, _, k => k == 1
  | .indexStep, _, k => k == 3
  | .readModifyWrite _, mode, k => if mode = 2 then k == 4 else if mode = 3 then k == 3 else k == 1
  | .aluRead op, mode, k => k == (Handler.aluRead op).endCycle mode
  | .store, mode, k => k == Handler.store.endCycle mode
  | .noOperation, _, _ | .branch, _, _ | .jump, _, _ | .unrecognised, _, _ => false

/-- Bit `j` of `f` is `b` if `j = k`, and else that of `g`, for the six flags. -/
def onlyBit (f g : Byte) (k : Nat) (b : Bool) : Prop := ∀ j, j < 6 → f.getLsbD j = if j = k then b else g.getLsbD j

end Sys2Proof.Claims

open Sys2Proof Sys2Proof.Machine Sys2Proof.Claims

/-! ## Encoding -/

/-- Decoding the bytes of a well-formed instruction gives it back, whatever follows (30_encoding R90, R95,
R101). The opcode numbers are log 10. -/
def Obligations.DecodeInvertsEncode : Prop :=
  ∀ (i : Instr) (rest : List Byte), i.wf = true → decode (encode i ++ rest) = .ok (i, rest)

/-- Every instruction the decoder reads is well formed, and its encoding is exactly the bytes read (30 R101). -/
def Obligations.EncodeInvertsDecode : Prop :=
  ∀ (bs rest : List Byte) (i : Instr), decode bs = .ok (i, rest) → i.wf = true ∧ bs = encode i ++ rest

/-- The decoder rejects a byte string only for want of bytes: three bytes always decode, to an instruction of
1 to 3 bytes (30 R90, R101: "every byte string decodes"). -/
def Obligations.ThreeBytesAlwaysDecode : Prop :=
  ∀ (b0 b1 b2 : Byte) (rest : List Byte), ∃ i, decode (b0 :: b1 :: b2 :: rest) = .ok (i, (b0 :: b1 :: b2 :: rest).drop i.length) ∧
    i = decodeTriple b0 b1 b2 ∧ 1 ≤ i.length ∧ i.length ≤ 3

/-- The words of the spec's examples decode to the instructions it gives (30 R103; 95 A1, A4, A25, M4, B1, S3, J1). -/
def Obligations.SpecWordsDecode : Prop :=
  decode [0x8B, 0x01] = .ok (.addaImm 0x01, []) ∧ decode [0xBB, 0x20, 0x00] = .ok (.addaExt 0x2000, []) ∧
  decode [0x96, 0x40] = .ok (.ldaaDir 0x40, []) ∧ decode [0x70, 0x20, 0x00] = .ok (.negExt 0x2000, []) ∧
  decode [0x20, 0x7F] = .ok (.bra 0x7F, []) ∧ decode [0xE7, 0xFF] = .ok (.stabIdx 0xFF, []) ∧
  decode [0x7E, 0xAB, 0xCD] = .ok (.jmpExt 0xABCD, []) ∧ decode [0x08] = .ok (.inx, []) ∧
  decode [0x4F] = .ok (.clra, []) ∧ decode [0x8C, 0x12] = .ok (.unrecognised 0x8C, [0x12])

/-- The two forms of the decode table agree on every opcode byte: the decoded instruction has the effect the
dispatched handler has for that byte and its operand bytes, whatever the state; the dispatcher's default is
taken exactly for the 97 listed bytes, exactly these decode as unrecognised; and the period count of the
decoded instruction is the end cycle of the dispatched handler plus one (30 R98, R99, R102; 40 R140). The
opcode numbers are log 10. -/
def Obligations.DispatcherAgreesWithDecoder : Prop :=
  ∀ b0 b1 b2 : Byte,
    (∀ s : State, exec (decodeTriple b0 b1 b2) s = .next (((dispatch b0).action b0 b1 b2).effect s)) ∧
    (dispatch b0 = .unrecognised ↔ unrecognisedOpcodes.contains b0 = true) ∧
    (decodeTriple b0 b1 b2 = .unrecognised b0 ↔ unrecognisedOpcodes.contains b0 = true) ∧
    (decodeTriple b0 b1 b2).periods = (dispatch b0).endCycle (b0.extractLsb' 4 2).toNat + 1

/-! ## Reset -/

/-- The fixed values of the reset state, whatever the unspecified registers hold (10_state R41). They and
`CCS_RESET` are decisions (92 D19; log 3, 4), so this is the spec's choice, not the source's. -/
def Obligations.ResetStateIsReadyForSequencer : Prop :=
  ∀ (l : Launch) (m : Memory) (ins : List Bool) (n : Nat),
    let s := State.atReset l m ins n
    s.rst = 0 ∧ s.cycle = 0 ∧ s.rw = true ∧ s.vma = false ∧ s.ccs = 0xD0 ∧ s.mem = m ∧
    State.reset = State.atReset Config.launch [] [] 0

/-- The three states of the reset sequencer, one clock period each (70 R361, R362, R363): what each asserts
and captures; every other register, among them the cycle counter, the latched opcode and the flags, neither
matters nor changes. (That the scratch register is `TMP8` and that `VMA` is high in the two reads are the
decisions D30, D27; log 15.) -/
def Obligations.SequencerReadsVectorThenEndsInstruction : Prop :=
  ∀ s : State, s.rw = true →
    (s.rst = 0 → clock false s = { s with addr := 0xFFFE, rw := true, vma := true, rst := 1 }) ∧
    (s.rst = 1 → clock false s =
      { s with tmp8 := s.mem.read s.addr, addr := 0xFFFF, rw := true, vma := true, rst := 2 }) ∧
    (s.rst = 2 → clock false s =
      let v : Word := BitVec.ofNat 16 (256 * s.tmp8.toNat + (s.mem.read s.addr).toNat)
      { s with rst := 3, pc := v, addr := v, rw := true, vma := true, cycle := 0 })

/-- The source's reset property (70 R365): from the state a reset pulse leaves, the valid bus transactions of
the three periods are exactly the reads of 0xFFFE and 0xFFFF, and the program counter is the big-endian word
there; the next period is the first fetch. (`VMA` of the three periods: decisions D19, D27; log 15.) -/
def Obligations.ResetPulseLoadsVector : Prop :=
  ∀ s : State, s.rst = 0 → s.rw = true → s.vma = false →
    let pc : Word := BitVec.ofNat 16 (256 * (s.mem.read 0xFFFE).toNat + (s.mem.read 0xFFFF).toNat)
    (busTrace 3 s).filter (fun p => p.vma) = [busRead s 0xFFFE, busRead s 0xFFFF] ∧
    busTrace 1 s = [busDead s.addr] ∧
    clocks 3 s =
      { s with rst := 3, cycle := 0, pc := pc, addr := pc, tmp8 := s.mem.read 0xFFFE, rw := true, vma := true }

/-- The reset input wins over everything, at any clock edge (10_state R42, 60 R345, 70 R368): the reset state
is loaded, a write that was on the bus is committed and nothing else reaches memory. The reset state's
values are decisions (92 D19, D20; log 2, 3, 5). -/
def Obligations.ResetInputAbandonsInstruction : Prop :=
  ∀ (s : State) (rest : List Bool), s.rstIn = true :: rest →
    ∃ t, step s = .next t ∧ t.rst = 0 ∧ t.cycle = 0 ∧ t.rw = true ∧ t.vma = false ∧ t.ccs = 0xD0 ∧ t.rstIn = rest ∧
      t.draws = s.draws + 1 ∧
      (s.rw = false → s.vma = true → t.mem = s.mem.write s.addr s.dout) ∧
      (s.rw = true ∨ s.vma = false → t.mem = s.mem)

/-- "reset-state reaches 3 exactly once per reset pulse and stays there until the next reset" (70 R364): after
any reset edge the sequencer state is 0, 1, 2, 3 in the next periods and 3 in every later one; the period of
state 2 ends at an instruction boundary whose `PC` is the vector, so the first fetch is the one at the vector;
from state 3 no step whose edge has the reset input low leaves it. -/
def Obligations.ResetStateThreeIsTerminal : Prop :=
  (∀ (s : State) (n : Nat), (clocks n (clock true s)).rst.toNat = min n 3) ∧
  (∀ s : State,
    let t := clocks 3 (clock true s)
    t.atBoundary = true ∧ t.pc = BitVec.ofNat 16 (256 * (t.mem.read 0xFFFE).toNat + (t.mem.read 0xFFFF).toNat)) ∧
  (∀ s : State, s.rst = 2 → (clock false s).atBoundary = true ∧ (clock false s).pc = joinBytes s.tmp8 s.din) ∧
  ∀ s : State, s.rst = 3 → s.rstIn.head? ≠ some true → ∃ t, step s = .next t ∧ t.rst = 3

/-! ## Fetch, step, end of instruction -/

/-- Cycle 0 (40 R126), from every state with `RST = 3`: the byte on `Din` goes to the instruction latch, `PC`
and `ADDR` become `PC + 1`, and the direction is forced to read whatever it was; cycle 1 follows. Nothing else
changes but memory, by the write that is on the bus if the period finds `RW = 0` and `VMA = 1`, as no fetch of a
run does (10_state R45); the stale instruction latch is not looked at. In a valid read period `Din` is the byte
at `ADDR`. Rests on the decisions D11 (the `VMA` default; log 15), D21 (when a write is committed; log 7) and
D26 (the wrap of `PC + 1`). -/
def Obligations.FetchLatchesOpcodeAndAdvances : Prop :=
  ∀ s : State, s.rst = 3 → s.cycle = 0 →
    clock false s =
      { s with instr := s.din, rw := true, pc := s.pc + 1, addr := s.pc + 1, cycle := 1, vma := true,
               mem := if s.rw = false ∧ s.vma = true then s.mem.write s.addr s.dout else s.mem } ∧
    (s.rw = true → s.vma = true → (clock false s).instr = s.mem.read s.addr)

/-- A step runs the decoded instruction: at a boundary with the reset input low for good, `step` is `exec` of
the instruction that the bytes at `PC` decode to, on the state with the opcode latched in `INSTR`. Everywhere
else a step is one clock period, with the next level of the reset input if one is still to come (log 1). -/
def Obligations.StepRunsInstructionAtProgramCounter : Prop :=
  ∀ s : State,
    (∀ (i : Instr) (rest : List Byte), s.atBoundary = true → s.rstIn = [] →
      decode [streamByte s 0, streamByte s 1, streamByte s 2] = .ok (i, rest) →
      step s = exec i { s with instr := streamByte s 0 }) ∧
    (s.atBoundary = false → s.rstIn = [] → step s = .next (clock false s)) ∧
    (∀ (level : Bool) (rest : List Bool), s.rstIn = level :: rest →
      step s = .next (clock level { s with rstIn := rest }))

/-- No fault, no halt: every state has a successor (60 R340). -/
def Obligations.EveryStateHasSuccessor : Prop := ∀ s : State, ∃ t, step s = .next t

/-- Every instruction completes, from every state, at an end of instruction (40 R124, R125): `PC` and `ADDR`
hold the same next address, the direction is read, the cycle counter is 0, and the next address is the one
past the instruction's bytes unless it is a branch or a jump. -/
def Obligations.EveryInstructionEndsAtBoundary : Prop :=
  ∀ (i : Instr) (s : State), ∃ t, exec i s = .next t ∧
    t.addr = t.pc ∧ t.rw = true ∧ t.vma = true ∧ t.cycle = 0 ∧ t.rst = s.rst ∧
    (sequential i = true → t.pc = s.pc + BitVec.ofNat 16 i.length)

/-! ## The two levels, and the invariant of every run -/

/-- One instruction as one step (40 R136, R140): from a boundary, the step's next state is the state that the
cycle tables reach after the instruction's number of periods, and the cycle counter counts them one by one
in between. -/
def Obligations.StepIsTheClockPeriodsOfTheInstruction : Prop :=
  ∀ s : State, s.atBoundary = true → s.rstIn = [] →
    step s = .next (clocks s.nextInstr.periods s) ∧
    ∀ k, k < s.nextInstr.periods → (clocks k s).cycle.toNat = k

/-- Every step keeps the invariant: canonical memory, the boundary invariant at every cycle 0 (10_state R45),
no cycle beyond a handler's end, and the bus levels of the cycle tables in every other period. -/
def Obligations.StepKeepsInvariant : Prop := ∀ s t : State, s.Inv → step s = .next t → t.Inv

/-- The invariant holds at reset, whatever the unspecified registers hold. -/
def Obligations.InvariantHoldsAtReset : Prop :=
  State.reset.Inv ∧ ∀ (l : Launch) (m : Memory) (ins : List Bool) (n : Nat), m.wf = true → (State.atReset l m ins n).Inv

/-! ## Whole-machine rules -/

/-- `SP` keeps its value for ever, short of a reset edge (10_state R23). -/
def Obligations.StackPointerNeverChanges : Prop :=
  ∀ s : State, s.rstIn.head? ≠ some true → ∃ t, step s = .next t ∧ t.sp = s.sp

/-- Only INX and DEX change `X`, by one (10_state R22). -/
def Obligations.IndexRegisterOnlyStepsByOne : Prop :=
  ∀ (i : Instr) (s : State), ∃ t, exec i s = .next t ∧
    (i = .inx → t.x = s.x + 1) ∧ (i = .dex → t.x = s.x - 1) ∧ (i ≠ .inx → i ≠ .dex → t.x = s.x)

/-- The memory frame of every instruction: a byte outside the address it stores to reads as before; an
instruction that stores nothing (TST among them) leaves all of memory (95 Part 4, 43 R242, 45 R290). -/
def Obligations.OnlyStoreAddressChangesInMemory : Prop :=
  ∀ (i : Instr) (s : State), s.mem.wf = true → ∃ t, exec i s = .next t ∧
    ∀ a : Word, storeAddress s i ≠ some a → t.mem.read a = s.mem.read a

/-- The flag vector has one writer (10_state R32): it holds in every period that selects no ALU function:
the reset sequence, the fetch, and every handler cycle outside its ALU cycle. -/
def Obligations.FlagsHoldOutsideAluCycles : Prop :=
  ∀ s : State, (s.rst ≠ 3 ∨ s.cycle = 0 ∨ aluCycle (dispatch s.instr) s.mode.toNat s.cycle.toNat = false) →
    (clock false s).ccs = s.ccs

/-- The scratch registers, the instruction latch and `DOUT` carry nothing into the next instruction (10_state
R44): two boundary states that differ only there step to states that differ only in scratch and `DOUT`. -/
def Obligations.ScratchCarriesNothingAcrossInstructions : Prop :=
  ∀ (s : State) (v8 op d : Byte) (v16 : Word), s.atBoundary = true → s.rstIn = [] →
    ∃ t t', step s = .next t ∧ step { s with tmp8 := v8, tmp16 := v16, instr := op, dout := d } = .next t' ∧
      t' = { t with tmp8 := t'.tmp8, tmp16 := t'.tmp16, dout := t'.dout }

/-- In a dead cycle the core does not look at `Din` and the memory is not accessed (20_memory R64): with any
other memory contents the period does the same, and the contents stay. -/
def Obligations.DeadCycleTouchesNoMemory : Prop :=
  ∀ (s : State) (m : Memory), s.Inv → s.vma = false →
    clock false { s with mem := m } = { clock false s with mem := m } ∧ (clock false s).mem = s.mem

/-- The interrupt mask masks nothing (60 R343): inverting `I` before an instruction changes nothing after it
but `I`, and, for TPA, the copy of it in `A`. -/
def Obligations.InterruptMaskMasksNothing : Prop :=
  ∀ (i : Instr) (s : State),
    let s' : State := { s with ccs := s.ccs ^^^ 0x10 }
    ∃ t, exec i s = .next t ∧
      (i = .tpa → exec i s' = .next { t with a := t.a ^^^ 0x10, ccs := t.ccs ^^^ 0x10 }) ∧
      (i ≠ .tpa → exec i s' = .next t ∨ exec i s' = .next { t with ccs := t.ccs ^^^ 0x10 })

/-- The generic register write refuses the read-only `DIN` and no other register; a write is read back,
8-bit registers taking the low byte, and leaves the other writable registers (10_state R20, R30). -/
def Obligations.OnlyDataInLatchRefusesWrite : Prop :=
  ∀ (s : State) (r : Reg) (v : Word),
    (r = .DIN → s.writeReg r v = .refused .readOnlyRegister) ∧
    (r ≠ .DIN → ∃ t, s.writeReg r v = .next t ∧
      (t.readReg r).toNat = v.toNat % 2 ^ r.width ∧
      (∀ q, q ≠ r → q ≠ .DIN → t.readReg q = s.readReg q) ∧ t.ccs = s.ccs ∧ t.mem = s.mem)

/-- Writing a byte alias of a 16-bit register leaves the other half (10_state R29). -/
def Obligations.ByteAliasesShareTheParent : Prop :=
  ∀ (w : Word) (v : Byte),
    hiByte (setHiByte w v) = v ∧ loByte (setHiByte w v) = loByte w ∧
    loByte (setLoByte w v) = v ∧ hiByte (setLoByte w v) = hiByte w ∧
    w.toNat = 256 * (hiByte w).toNat + (loByte w).toNat

/-! ## The ALU contract -/

/-- The reference ALU meets the source's contract (41 R164): (a) NONE changes no flag; (b) LD sets `Z` and `N`
from its value and clears `V`; (c) the clear and set functions change exactly the named flag; (d) CLZ, SEZ
likewise; (e) the transfers move the flags; (f) CMP and BIT leave the flags of SUB and AND. -/
def Obligations.ReferenceAluMeetsContract : Prop :=
  (∀ x y f : Byte, (machineAlu .none x y f).flags = f) ∧
  (∀ x y f : Byte, ((machineAlu .ld x y f).flags.getLsbD 2 = true ↔ y = 0) ∧
    (machineAlu .ld x y f).flags.getLsbD 3 = y.msb ∧ (machineAlu .ld x y f).flags.getLsbD 1 = false) ∧
  (∀ x y f : Byte, onlyBit (machineAlu .clc x y f).flags f 0 false ∧ onlyBit (machineAlu .sec x y f).flags f 0 true ∧
    onlyBit (machineAlu .clv x y f).flags f 1 false ∧ onlyBit (machineAlu .sev x y f).flags f 1 true ∧
    onlyBit (machineAlu .cli x y f).flags f 4 false ∧ onlyBit (machineAlu .sei x y f).flags f 4 true ∧
    onlyBit (machineAlu .clz x y f).flags f 2 false ∧ onlyBit (machineAlu .sez x y f).flags f 2 true) ∧
  (∀ x y f : Byte, ∀ j, j < 6 → (machineAlu .tap x y f).flags.getLsbD j = x.getLsbD j ∧
    (machineAlu .tpa x y f).result.getLsbD j = f.getLsbD j) ∧
  (∀ (o : ReadOperand) (s : State), ∃ t u v w : State,
    exec (.cmpa o) s = .next t ∧ exec (.suba o) s = .next u ∧ t.ccs = u.ccs ∧ t.a = s.a ∧
    exec (.bita o) s = .next v ∧ exec (.anda o) s = .next w ∧ v.ccs = w.ccs ∧ v.a = s.a)

/-! ## Operands -/

/-- The effective addresses: direct has a zero high byte, indexed adds the unsigned offset to `X` modulo
2^16, extended is the operand itself, whose first byte is the high one (30 R95, 20 R67, R70). -/
def Obligations.EffectiveAddressesOfEveryMode : Prop :=
  (∀ (s : State) (dd : Byte), (StoreOperand.dir dd).ea s = direct dd ∧ (direct dd).toNat = dd.toNat) ∧
  (∀ (s : State) (ff : Byte), (StoreOperand.idx ff).ea s = indexed s ff ∧ (MemOperand.idx ff).ea s = indexed s ff) ∧
  (∀ (s : State) (a : Word), (StoreOperand.ext a).ea s = a ∧ (MemOperand.ext a).ea s = a) ∧
  (∀ (s : State) (o : ReadOperand), o.value s = operand s o) ∧
  ∀ hi lo : Byte, (joinBytes hi lo).toNat = 256 * hi.toNat + lo.toNat

/-! ## The ALU-read family (results: the reference ALU, log 9) -/

/-- ADD and ADC: the sum modulo 256; `H`, `N`, `Z`, `V`, `C`; `I` kept. -/
def Obligations.AddAndAdcStoreSumAndFlags : Prop :=
  ∀ (o : ReadOperand) (s : State),
    let v := operand s o
    readsInto (.adda o) .A s o (sum8 s.a v 0) (sumFlags s.ccs s.a v 0) ∧
    readsInto (.addb o) .B s o (sum8 s.b v 0) (sumFlags s.ccs s.b v 0) ∧
    readsInto (.adca o) .A s o (sum8 s.a v (carry s.ccs)) (sumFlags s.ccs s.a v (carry s.ccs)) ∧
    readsInto (.adcb o) .B s o (sum8 s.b v (carry s.ccs)) (sumFlags s.ccs s.b v (carry s.ccs))

/-- SUB and SBC: the difference modulo 256; `N`, `Z`, `V`, and `C` the borrow; `H`, `I` kept. -/
def Obligations.SubAndSbcStoreDifferenceAndFlags : Prop :=
  ∀ (o : ReadOperand) (s : State),
    let v := operand s o
    readsInto (.suba o) .A s o (diff8 s.a v 0) (diffFlags s.ccs s.a v 0) ∧
    readsInto (.subb o) .B s o (diff8 s.b v 0) (diffFlags s.ccs s.b v 0) ∧
    readsInto (.sbca o) .A s o (diff8 s.a v (carry s.ccs)) (diffFlags s.ccs s.a v (carry s.ccs)) ∧
    readsInto (.sbcb o) .B s o (diff8 s.b v (carry s.ccs)) (diffFlags s.ccs s.b v (carry s.ccs))

/-- CMP: the flags of the difference, no register written. -/
def Obligations.CmpSetsFlagsOnly : Prop :=
  ∀ (o : ReadOperand) (s : State),
    readsOnly (.cmpa o) s o (diffFlags s.ccs s.a (operand s o) 0) ∧
    readsOnly (.cmpb o) s o (diffFlags s.ccs s.b (operand s o) 0)

/-- AND, EOR and ORA: the logical result; `N`, `Z`; `V` cleared; `C`, `H`, `I` kept. -/
def Obligations.LogicStoresResultAndClearsOverflow : Prop :=
  ∀ (o : ReadOperand) (s : State),
    let v := operand s o
    let keep (r : Byte) : Byte := flagsOf s.ccs r false (s.ccs.getLsbD 0)
    readsInto (.anda o) .A s o (s.a &&& v) (keep (s.a &&& v)) ∧ readsInto (.andb o) .B s o (s.b &&& v) (keep (s.b &&& v)) ∧
    readsInto (.eora o) .A s o (s.a ^^^ v) (keep (s.a ^^^ v)) ∧ readsInto (.eorb o) .B s o (s.b ^^^ v) (keep (s.b ^^^ v)) ∧
    readsInto (.oraa o) .A s o (s.a ||| v) (keep (s.a ||| v)) ∧ readsInto (.orab o) .B s o (s.b ||| v) (keep (s.b ||| v))

/-- BIT: the flags of the conjunction, no register written. -/
def Obligations.BitTestsWithoutWriting : Prop :=
  ∀ (o : ReadOperand) (s : State),
    readsOnly (.bita o) s o (flagsOf s.ccs (s.a &&& operand s o) false (s.ccs.getLsbD 0)) ∧
    readsOnly (.bitb o) s o (flagsOf s.ccs (s.b &&& operand s o) false (s.ccs.getLsbD 0))

/-- LDA: the operand; `N`, `Z` from it, `V` cleared (the source's), `C`, `H`, `I` kept (the reference ALU's). -/
def Obligations.LoadCopiesOperandAndSetsFlags : Prop :=
  ∀ (o : ReadOperand) (s : State),
    let v := operand s o
    readsInto (.ldaa o) .A s o v (flagsOf s.ccs v false (s.ccs.getLsbD 0)) ∧
    readsInto (.ldab o) .B s o v (flagsOf s.ccs v false (s.ccs.getLsbD 0))

/-! ## The read-modify-write family (results: the reference ALU, log 9) -/

/-- NEG: `0 - v`; `C` unless `v` is 0, `V` for 0x80. -/
def Obligations.NegNegatesOperand : Prop :=
  modifies .nega .negb .neg (fun _ v => diff8 0 v 0)
    (fun s v => flagsOf s.ccs (diff8 0 v 0) (decide (v.toNat = 128)) (decide (v.toNat ≠ 0)))

/-- COM: `255 - v`; `V` cleared, `C` set. -/
def Obligations.ComComplementsOperand : Prop :=
  modifies .coma .comb .com (fun _ v => BitVec.ofNat 8 (255 - v.toNat))
    (fun s v => flagsOf s.ccs (BitVec.ofNat 8 (255 - v.toNat)) false true)

/-- LSR halves the operand unsigned, ASR signed; `C` the bit shifted out, `V = N xor C`. -/
def Obligations.RightShiftsHalveOperand : Prop :=
  modifies .lsra .lsrb .lsr (fun _ v => BitVec.ofNat 8 (v.toNat / 2))
    (fun s v => flagsOf s.ccs (BitVec.ofNat 8 (v.toNat / 2)) (decide (v.toNat % 2 = 1)) (decide (v.toNat % 2 = 1))) ∧
  modifies .asra .asrb .asr (fun _ v => BitVec.ofInt 8 (v.toInt / 2))
    (fun s v => flagsOf s.ccs (BitVec.ofInt 8 (v.toInt / 2)) (decide (v.toInt < 0) ^^ decide (v.toNat % 2 = 1))
      (decide (v.toNat % 2 = 1)))

/-- ASL doubles the operand; `C` the bit shifted out, `V` when the signed double does not fit. -/
def Obligations.AslDoublesOperand : Prop :=
  modifies .asla .aslb .asl (fun _ v => BitVec.ofNat 8 (2 * v.toNat))
    (fun s v => flagsOf s.ccs (BitVec.ofNat 8 (2 * v.toNat)) (overflows (2 * v.toInt)) (decide (128 ≤ v.toNat)))

/-- ROL and ROR rotate through the carry: `{C, v}` as nine bits turned by one. -/
def Obligations.RotatesTurnThroughCarry : Prop :=
  modifies .rola .rolb .rol (fun s v => BitVec.ofNat 8 (2 * v.toNat + carry s.ccs))
    (fun s v => flagsOf s.ccs (BitVec.ofNat 8 (2 * v.toNat + carry s.ccs))
      (decide (128 ≤ 2 * v.toNat % 256) ^^ decide (128 ≤ v.toNat)) (decide (128 ≤ v.toNat))) ∧
  modifies .rora .rorb .ror (fun s v => BitVec.ofNat 8 (128 * carry s.ccs + v.toNat / 2))
    (fun s v => flagsOf s.ccs (BitVec.ofNat 8 (128 * carry s.ccs + v.toNat / 2))
      (decide (carry s.ccs = 1) ^^ decide (v.toNat % 2 = 1)) (decide (v.toNat % 2 = 1)))

/-- INC and DEC: by one modulo 256; `V` at 0x7F and 0x80; `C` kept. -/
def Obligations.IncAndDecStepOperandKeepingCarry : Prop :=
  modifies .inca .incb .inc (fun _ v => BitVec.ofNat 8 (v.toNat + 1))
    (fun s v => flagsOf s.ccs (BitVec.ofNat 8 (v.toNat + 1)) (decide (v.toNat = 127)) (s.ccs.getLsbD 0)) ∧
  modifies .deca .decb .dec (fun _ v => BitVec.ofNat 8 (v.toNat + 255))
    (fun s v => flagsOf s.ccs (BitVec.ofNat 8 (v.toNat + 255)) (decide (v.toNat = 128)) (s.ccs.getLsbD 0))

/-- TST: `N`, `Z` from the operand, `V` and `C` cleared; no accumulator and no byte of memory written. In the
memory forms `TMP8` and `DOUT` hold the operand (43 R232; log 13). -/
def Obligations.TstSetsFlagsAndWritesNothing : Prop :=
  ∀ s : State,
    exec .tsta s = .next (endedAt { s with ccs := flagsOf s.ccs s.a false false } (s.pc + 1)) ∧
    exec .tstb s = .next (endedAt { s with ccs := flagsOf s.ccs s.b false false } (s.pc + 1)) ∧
    ∀ o : MemOperand,
      let v := s.mem.read (o.ea s)
      exec (.tst o) s = .next (endedAt
        { s with ccs := flagsOf s.ccs v false false, tmp8 := v, tmp16 := o.ea s, dout := v } (s.pc + memLength o))

/-- CLR: zero, whatever the operand was; `Z` set, `N`, `V`, `C` cleared; `H`, `I` kept. -/
def Obligations.ClrClearsWhateverTheOperand : Prop :=
  modifies .clra .clrb .clr (fun _ _ => 0x00)
    (fun s _ => flagVector (s.ccs.getLsbD 5) (s.ccs.getLsbD 4) false true false false)

/-! ## Branches, jumps -/

/-- The sixteen branches (44 R261, R279), conditions as functions of `N Z V C`: BRN never, and each other pair
the source's condition and its complement. No branch writes a flag or an accumulator. -/
def Obligations.BranchesFollowConditionTable : Prop :=
  branchesWhen .bra (fun _ _ _ _ => true) ∧ branchesWhen .brn (fun _ _ _ _ => false) ∧
  branchesWhen .bhi (fun _ z _ c => !c && !z) ∧ branchesWhen .bls (fun _ z _ c => c || z) ∧
  branchesWhen .bcc (fun _ _ _ c => !c) ∧ branchesWhen .bcs (fun _ _ _ c => c) ∧
  branchesWhen .bne (fun _ z _ _ => !z) ∧ branchesWhen .beq (fun _ z _ _ => z) ∧
  branchesWhen .bvc (fun _ _ v _ => !v) ∧ branchesWhen .bvs (fun _ _ v _ => v) ∧
  branchesWhen .bpl (fun n _ _ _ => !n) ∧ branchesWhen .bmi (fun n _ _ _ => n) ∧
  branchesWhen .bge (fun n _ v _ => n == v) ∧ branchesWhen .blt (fun n _ v _ => n != v) ∧
  branchesWhen .bgt (fun n z v _ => !z && n == v) ∧ branchesWhen .ble (fun n z v _ => z || n != v)

/-- A branch after CMPA decides the comparison its name says, unsigned or signed (44 R265, R266, R275, R276
for BHI, BLS, BGE, BLT; the others likewise). Rests on the reference ALU (log 9). -/
def Obligations.BranchAfterCompareDecidesOrder : Prop :=
  ∀ (o : ReadOperand) (s : State), ∃ t, exec (.cmpa o) s = .next t ∧
    let v := operand s o
    takenIff .bhi t (v.toNat < s.a.toNat) ∧ takenIff .bls t (s.a.toNat ≤ v.toNat) ∧
    takenIff .bcc t (v.toNat ≤ s.a.toNat) ∧ takenIff .bcs t (s.a.toNat < v.toNat) ∧
    takenIff .bne t (s.a ≠ v) ∧ takenIff .beq t (s.a = v) ∧
    takenIff .bge t (v.toInt ≤ s.a.toInt) ∧ takenIff .blt t (s.a.toInt < v.toInt) ∧
    takenIff .bgt t (v.toInt < s.a.toInt) ∧ takenIff .ble t (s.a.toInt ≤ v.toInt)

/-- JMP: `PC` becomes the effective address itself; only `TMP16` changes besides (46 R302). -/
def Obligations.JumpGoesToEffectiveAddress : Prop :=
  ∀ (o : MemOperand) (s : State), exec (.jmp o) s = .next (endedAt { s with tmp16 := o.ea s } (o.ea s))

/-! ## Store -/

/-- STA: the byte at the effective address becomes the accumulator, every other byte stays; `N`, `Z` from the
accumulator, `V` cleared, `C`, `H`, `I` kept; the accumulators do not change (45 R292). -/
def Obligations.StoreWritesAccumulatorAndSetsFlags : Prop :=
  ∀ (o : StoreOperand) (s : State), s.mem.wf = true →
    let stores (i : Instr) (v : Byte) : Prop := ∃ t, exec i s = .next t ∧
      t = endedAt { s with mem := t.mem, ccs := flagsOf s.ccs v false (s.ccs.getLsbD 0), tmp16 := o.ea s, dout := v }
        (s.pc + storeLength o) ∧
      t.mem.read (o.ea s) = v ∧ ∀ a, a ≠ o.ea s → t.mem.read a = s.mem.read a
    stores (.staa o) s.a ∧ stores (.stab o) s.b

/-- A store to the next opcode's address is seen by the very next fetch, with no barrier (20_memory R77): every
form of STAA and STAB, and the memory forms of the ten read-modify-write operations that store. The next step
runs the instruction whose opcode is the byte just stored. (The bytes the ten store: the reference ALU, log 9.) -/
def Obligations.StoreIsSeenByTheNextFetch : Prop :=
  ∀ s : State, s.mem.wf = true → s.rst = 3 → s.rstIn = [] →
    let fetched (i : Instr) (v : Byte) : Prop := ∃ t, exec i s = .next t ∧
      step t = exec (decodeTriple v (t.mem.read (t.pc + 1)) (t.mem.read (t.pc + 2))) { t with instr := v }
    (∀ o : StoreOperand, o.ea s = s.pc + storeLength o → fetched (.staa o) s.a ∧ fetched (.stab o) s.b) ∧
    ∀ o : MemOperand, o.ea s = s.pc + memLength o →
      let v := s.mem.read (o.ea s)
      fetched (.neg o) (diff8 0 v 0) ∧ fetched (.com o) (BitVec.ofNat 8 (255 - v.toNat)) ∧
      fetched (.lsr o) (BitVec.ofNat 8 (v.toNat / 2)) ∧ fetched (.asr o) (BitVec.ofInt 8 (v.toInt / 2)) ∧
      fetched (.asl o) (BitVec.ofNat 8 (2 * v.toNat)) ∧
      fetched (.rol o) (BitVec.ofNat 8 (2 * v.toNat + carry s.ccs)) ∧
      fetched (.ror o) (BitVec.ofNat 8 (128 * carry s.ccs + v.toNat / 2)) ∧
      fetched (.inc o) (BitVec.ofNat 8 (v.toNat + 1)) ∧ fetched (.dec o) (BitVec.ofNat 8 (v.toNat + 255)) ∧
      fetched (.clr o) 0x00

/-! ## One-byte instructions -/

/-- NOP (47 R311): "changes only the program counter (monotonic +1 per instruction) and leaves every other
register and flag bit unchanged", for any number of NOPs in a row, two periods each, wrapping at the top;
its bus trace is the fetch and one discarded read. (That the discarded read is valid is D11, log 15; the wrap D26;
the opcode log 10.) -/
def Obligations.NopsChangeOnlyTheProgramCounter : Prop :=
  (∀ s : State, exec .nop s = .next (endedAt s (s.pc + 1))) ∧
  ∀ (n : Nat) (s : State), s.atBoundary = true → (∀ k, k < n → streamByte s k = 0x01) →
    clocks (2 * n) s =
      { s with pc := s.pc + BitVec.ofNat 16 n, addr := s.pc + BitVec.ofNat 16 n, instr := if n = 0 then s.instr else 0x01 } ∧
    (1 ≤ n → busTrace 2 s = [busRead s s.pc, busRead s (s.pc + 1)])

/-- An unrecognised opcode (47 R330): one byte, two periods, only `PC` (and the latched opcode) changes; no
fault, and the next byte is fetched as an opcode. (That the discarded read is valid is D11, log 15; the list of
bytes log 10.) -/
def Obligations.UnrecognisedOpcodeIsSkipped : Prop :=
  (∀ (op : Byte) (s : State), exec (.unrecognised op) s = .next (endedAt s (s.pc + 1))) ∧
  ∀ s : State, s.atBoundary = true → s.rstIn = [] → unrecognisedOpcodes.contains (streamByte s 0) = true →
    let t : State := { s with pc := s.pc + 1, addr := s.pc + 1, instr := streamByte s 0 }
    step s = .next t ∧ clocks 2 s = t ∧ busTrace 2 s = [busRead s s.pc, busRead s (s.pc + 1)]

/-- TAP copies bits 5:0 of `A` into the flags, TPA the flags into `A`, bits 7:6 reading 1; TPA changes no
flag (the reference ALU and the spec's choice of `A`: log 9, 10, 12). -/
def Obligations.TransfersMoveSixFlags : Prop :=
  ∀ s : State,
    exec .tap s = .next (endedAt { s with ccs := BitVec.ofNat 8 (192 + s.a.toNat % 64) } (s.pc + 1)) ∧
    exec .tpa s = .next (endedAt { s with a := BitVec.ofNat 8 (192 + s.ccs.toNat % 64) } (s.pc + 1))

/-- CLV, SEV, CLC, SEC, CLI, SEI change the one named flag (47 R314 to R320); bits 7:6 read 1 after. -/
def Obligations.FlagInstructionsChangeOneFlag : Prop :=
  ∀ s : State,
    let f (k : Nat) : Bool := s.ccs.getLsbD k
    let only (i : Instr) (ccs : Byte) : Prop := exec i s = .next (endedAt { s with ccs := ccs } (s.pc + 1))
    only .clv (flagVector (f 5) (f 4) (f 3) (f 2) false (f 0)) ∧ only .sev (flagVector (f 5) (f 4) (f 3) (f 2) true (f 0)) ∧
    only .clc (flagVector (f 5) (f 4) (f 3) (f 2) (f 1) false) ∧ only .sec (flagVector (f 5) (f 4) (f 3) (f 2) (f 1) true) ∧
    only .cli (flagVector (f 5) false (f 3) (f 2) (f 1) (f 0)) ∧ only .sei (flagVector (f 5) true (f 3) (f 2) (f 1) (f 0))

/-- INX and DEX step `X` modulo 2^16 and set `Z` by whether the new value is zero; no other of the six flags
changes (47 R321 to R323). That bits 7:6 of the flag vector read 1 after is the reference ALU's CLZ and SEZ (41
R167, R188; log 9), and the flag positions are log 11. -/
def Obligations.IndexStepSetsOnlyZero : Prop :=
  ∀ s : State,
    let f (k : Nat) : Bool := s.ccs.getLsbD k
    let steps (i : Instr) (x : Word) : Prop := exec i s = .next (endedAt
      { s with x := x, ccs := flagVector (f 5) (f 4) (f 3) (decide (x.toNat = 0)) (f 1) (f 0) } (s.pc + 1))
    steps .inx (BitVec.ofNat 16 (s.x.toNat + 1)) ∧ steps .dex (BitVec.ofNat 16 (s.x.toNat + 65535))

/-! ## The source's testable properties, on the bus -/

/-- Direct-mode ALU-read (42 R215, as corrected by 90 C1): three periods, one operand-byte read at `p + 1` and
one data read at the direct-page address, no write. (Which reads are counted is D29, log 19; opcode fields log 10.) -/
def Obligations.DirectReadTakesThreePeriodsAndTwoReads : Prop :=
  ∀ (s : State) (op : ReadOp), s.atBoundary = true → dispatch (streamByte s 0) = .aluRead op →
    (streamByte s 0).extractLsb' 4 2 = 1 →
    let ea := direct (streamByte s 1)
    reportedReads 3 s = [(s.pc + 1, streamByte s 1), (ea, s.mem.read ea)] ∧ reportedWrites 3 s = [] ∧
    (clocks 3 s).atBoundary = true ∧ (clocks 3 s).pc = s.pc + 2 ∧
    (clocks 1 s).cycle = 1 ∧ (clocks 2 s).cycle = 2

/-- The branch-always property (44 R281): opcode 0x20, the one with selector 000 and invert 0, goes to its
target in four periods from every boundary, whatever the flags and the displacement, and `20 FE` at 0x1234
returns to 0x1234 with the trace the rule gives. Rests on the opcode number (log 10) and on the decisions D13
(the scratch registers) and D11 (the `VMA` level of the two discarded reads; log 15). -/
def Obligations.BranchAlwaysToItselfLoops : Prop :=
  ∀ s : State, s.atBoundary = true → s.rstIn = [] → streamByte s 0 = 0x20 →
    (let rr := streamByte s 1
     let target := BitVec.ofInt 16 (s.pc.toNat + 2 + rr.toInt)
     let t : State := { s with pc := target, addr := target, tmp8 := rr, tmp16 := target, instr := 0x20 }
     step s = .next t ∧ clocks 4 s = t) ∧
    (s.pc = 0x1234 → streamByte s 1 = 0xFE →
      step s = .next { s with tmp8 := 0xFE, tmp16 := 0x1234, instr := 0x20 } ∧
      clocks 4 s = { s with tmp8 := 0xFE, tmp16 := 0x1234, instr := 0x20 } ∧
      busTrace 4 s = [busRead s 0x1234, busRead s 0x1235, busRead s 0x1236, busRead s 0x1236])

/-- The indexed-store property (45 R293), for STAA and STAB: one read, the offset byte at `p + 1`; one write,
of the accumulator's value before to `X + offset` with 16-bit wrap; `Z` and `N` from it, `V` cleared. The bus
trace of the six periods is that of 45 R291: its dead periods, among them the one at the effective address
before the write, are the decisions D11 and D15 (log 15); which reads and writes are counted is D29 (log 19).
The opcodes are log 10, the flag positions log 11. -/
def Obligations.IndexedStoreReadsOnceWritesOnce : Prop :=
  ∀ (s : State) (acc : Acc), s.atBoundary = true →
    streamByte s 0 = (match acc with | .A => 0xA7 | .B => 0xE7) →
    let ea := indexed s (streamByte s 1)
    let v := s.acc acc
    let t := clocks 6 s
    reportedReads 6 s = [(s.pc + 1, streamByte s 1)] ∧ reportedWrites 6 s = [(ea, v)] ∧
    busTrace 6 s = [busRead s s.pc, busRead s (s.pc + 1), busDead (s.pc + 2), busDead (s.pc + 2), busDead ea, busWrite ea v] ∧
    t.atBoundary = true ∧ t.pc = s.pc + 2 ∧ t.ccs.getLsbD 3 = v.msb ∧ (t.ccs.getLsbD 2 = true ↔ v = 0) ∧
    t.ccs.getLsbD 1 = false ∧ t.acc acc = v

/-- The extended-JMP property (46 R303): exactly two reads, at `p + 1` and `p + 2`, no write, `PC` the
big-endian word of the two; no other register but `INSTR` and `TMP16` changes. (Which reads are counted is D29,
log 19; the scratch register D13, log 15; the opcode log 10.) -/
def Obligations.ExtendedJumpReadsTwoBytes : Prop :=
  ∀ s : State, s.atBoundary = true → streamByte s 0 = 0x7E →
    let target : Word := BitVec.ofNat 16 (256 * (streamByte s 1).toNat + (streamByte s 2).toNat)
    reportedReads 3 s = [(s.pc + 1, streamByte s 1), (s.pc + 2, streamByte s 2)] ∧ reportedWrites 3 s = [] ∧
    clocks 3 s = { s with pc := target, addr := target, instr := 0x7E, tmp16 := target }

/-! ## Bus traces (levels: the decisions D11, D12, D15, D16, D18; log 15) -/

/-- The bus traces of the ALU-read family (42 R201), by mode. -/
def Obligations.AluReadBusTraces : Prop :=
  ∀ (s : State) (op : ReadOp), s.atBoundary = true → dispatch (streamByte s 0) = .aluRead op →
    let p := s.pc
    let idx := indexed s (streamByte s 1)
    let ext := joinBytes (streamByte s 1) (streamByte s 2)
    ((streamByte s 0).extractLsb' 4 2 = 0 → busTrace 3 s = [busRead s p, busRead s (p + 1), busRead s (p + 2)]) ∧
    ((streamByte s 0).extractLsb' 4 2 = 1 →
      busTrace 3 s = [busRead s p, busRead s (p + 1), busRead s (direct (streamByte s 1))]) ∧
    ((streamByte s 0).extractLsb' 4 2 = 2 →
      busTrace 5 s = [busRead s p, busRead s (p + 1), busDead (p + 2), busDead (p + 2), busRead s idx]) ∧
    ((streamByte s 0).extractLsb' 4 2 = 3 →
      busTrace 4 s = [busRead s p, busRead s (p + 1), busRead s (p + 2), busRead s ext])

/-- The bus traces of the memory read-modify-write forms (43 R232): read, dead cycle, write of the result, and
for TST two dead cycles instead. -/
def Obligations.ReadModifyWriteBusTraces : Prop :=
  ∀ (s : State) (op : RmwOp), s.atBoundary = true → dispatch (streamByte s 0) = .readModifyWrite op →
    let p := s.pc
    let idx := indexed s (streamByte s 1)
    let ext := joinBytes (streamByte s 1) (streamByte s 2)
    let last (ea : Word) : BusPeriod :=
      if op = .tst then busDead ea else busWrite ea (op.compute machineAlu (s.mem.read ea) s.ccs).result
    ((streamByte s 0).extractLsb' 4 2 = 2 →
      busTrace 7 s = [busRead s p, busRead s (p + 1), busDead (p + 2), busDead (p + 2), busRead s idx, busDead idx, last idx]) ∧
    ((streamByte s 0).extractLsb' 4 2 = 3 →
      busTrace 6 s = [busRead s p, busRead s (p + 1), busRead s (p + 2), busRead s ext, busDead ext, last ext])

/-- The dead cycles of INX and DEX show the old and then the new index value (47 R321). -/
def Obligations.IndexStepShowsOldThenNewIndex : Prop :=
  ∀ s : State, s.atBoundary = true → (streamByte s 0 = 0x08 ∨ streamByte s 0 = 0x09) →
    let x' : Word := if streamByte s 0 = 0x08 then s.x + 1 else s.x - 1
    busTrace 4 s = [busRead s s.pc, busRead s (s.pc + 1), busDead s.x, busDead x'] ∧
    (clocks 4 s).x = x' ∧ (clocks 4 s).atBoundary = true

/-- The bus traces of the remaining families, from every boundary: the fetch, one discarded read of `p + 1` and
then the fetch of `p + 1` for every one-byte instruction of two periods (47 R311 to R320, R330; 43 R231); the
two reads and the two
discarded reads of `p + 2` for all sixteen branches (44 R262); the dead cycle and the write at the effective
address for the direct, extended and indexed stores (45 R291); the reads and dead cycles of both jumps, and
the fetch at the target that follows them (46 R301). (Levels: D11, D15; log 15. Opcode fields: log 10.) -/
def Obligations.OneByteBranchStoreJumpBusTraces : Prop :=
  ∀ s : State, s.atBoundary = true →
    let p := s.pc
    let h := dispatch (streamByte s 0)
    let mode := (streamByte s 0).extractLsb' 4 2
    let dir := direct (streamByte s 1)
    let idx := indexed s (streamByte s 1)
    let ext := joinBytes (streamByte s 1) (streamByte s 2)
    let v := if (streamByte s 0).getLsbD 6 then s.b else s.a
    (h = .noOperation ∨ h = .transferTap ∨ h = .transferTpa ∨ h = .flag ∨ h = .unrecognised ∨
        (∃ op, h = .readModifyWrite op ∧ (mode = 0 ∨ mode = 1)) →
      busTrace 3 s = [busRead s p, busRead s (p + 1), busRead s (p + 1)]) ∧
    (h = .branch → busTrace 4 s = [busRead s p, busRead s (p + 1), busRead s (p + 2), busRead s (p + 2)]) ∧
    (h = .store → mode = 1 → busTrace 4 s = [busRead s p, busRead s (p + 1), busDead dir, busWrite dir v]) ∧
    (h = .store → mode = 2 → busTrace 6 s =
      [busRead s p, busRead s (p + 1), busDead (p + 2), busDead (p + 2), busDead idx, busWrite idx v]) ∧
    (h = .store → mode = 3 →
      busTrace 5 s = [busRead s p, busRead s (p + 1), busRead s (p + 2), busDead ext, busWrite ext v]) ∧
    (h = .jump → mode = 2 →
      busTrace 5 s = [busRead s p, busRead s (p + 1), busDead (p + 2), busDead (p + 2), busRead s idx]) ∧
    (h = .jump → mode = 3 →
      busTrace 4 s = [busRead s p, busRead s (p + 1), busRead s (p + 2), busRead s ext])
end

