-- ==== Sys2Proof/Laws/Memory.lean ====
section
/-! SUPPORT. The laws of memory: a read after a write, the bytes a write leaves alone, and that every
operation keeps the canonical form. -/

namespace Sys2Proof.Machine

@[simp] theorem Memory.readAt_nil (n : Nat) : Memory.readAt [] n = Config.memFill := rfl

theorem Memory.readAt_cons (k : Nat) (v : Byte) (rest : Memory) (n : Nat) :
    Memory.readAt ((k, v) :: rest) n = if n < k then Config.memFill else if n = k then v else rest.readAt n := rfl

@[simp] theorem Memory.wfFrom_nil (lo : Nat) : Memory.wfFrom lo [] = true := rfl

theorem Memory.wfFrom_cons (lo k : Nat) (v : Byte) (rest : Memory) :
    Memory.wfFrom lo ((k, v) :: rest) = true ↔
      lo ≤ k ∧ k < 65536 ∧ v ≠ Config.memFill ∧ Memory.wfFrom (k + 1) rest = true := by
  simp [Memory.wfFrom, and_assoc]

/-- A memory canonical from `hi` on is canonical from any lower address on. -/
theorem Memory.wfFrom_mono {lo hi : Nat} (h : lo ≤ hi) {m : Memory} (hm : Memory.wfFrom hi m = true) :
    Memory.wfFrom lo m = true := by
  cases m with
  | nil => rfl
  | cons c rest =>
    obtain ⟨k, v⟩ := c
    rw [Memory.wfFrom_cons] at hm ⊢
    exact ⟨by omega, hm.2⟩

/-- An address below the first that may be listed is not listed. -/
theorem Memory.readAt_below {lo n : Nat} (h : n < lo) {m : Memory} (hm : Memory.wfFrom lo m = true) :
    m.readAt n = Config.memFill := by
  cases m with
  | nil => rfl
  | cons c rest =>
    obtain ⟨k, v⟩ := c
    rw [Memory.wfFrom_cons] at hm
    rw [Memory.readAt_cons, if_pos (by omega)]

theorem Memory.readAt_writeAt_same (m : Memory) (lo n : Nat) (v : Byte) (hm : Memory.wfFrom lo m = true) :
    (m.writeAt n v).readAt n = v := by
  induction m generalizing lo with
  | nil => by_cases hv : v = Config.memFill <;> simp [Memory.writeAt, hv, Memory.readAt_cons]
  | cons c rest ih =>
    obtain ⟨k, w⟩ := c
    have hc := (Memory.wfFrom_cons lo k w rest).mp hm
    rw [Memory.writeAt]
    split
    · split <;> simp_all [Memory.readAt_cons]
    · split
      · split
        · subst_vars; exact Memory.readAt_below (by omega) hc.2.2.2
        · simp [Memory.readAt_cons]
      · rw [Memory.readAt_cons, if_neg ‹_›, if_neg ‹_›]
        exact ih _ hc.2.2.2

theorem Memory.readAt_writeAt_other (m : Memory) (lo n a : Nat) (v : Byte) (hm : Memory.wfFrom lo m = true)
    (ha : a ≠ n) : (m.writeAt n v).readAt a = m.readAt a := by
  induction m generalizing lo with
  | nil => by_cases hv : v = Config.memFill <;> simp [Memory.writeAt, hv, Memory.readAt_cons, ha]
  | cons c rest ih =>
    obtain ⟨k, w⟩ := c
    have hc := (Memory.wfFrom_cons lo k w rest).mp hm
    rw [Memory.writeAt]
    split
    · split
      · rfl
      · simp only [Memory.readAt_cons]
        by_cases h1 : a < n
        · rw [if_pos h1, if_pos (by omega)]
        · rw [if_neg h1, if_neg ha]
    · split
      · rename_i _ hnk
        subst hnk
        split
        · rw [Memory.readAt_cons]
          by_cases h1 : a < n
          · rw [if_pos h1]; exact Memory.readAt_below (by omega) hc.2.2.2
          · rw [if_neg h1, if_neg ha]
        · simp [Memory.readAt_cons, ha]
      · simp only [Memory.readAt_cons]
        rw [ih _ hc.2.2.2]

theorem Memory.wfFrom_writeAt (m : Memory) (lo n : Nat) (v : Byte) (hn : n < 65536) (hlo : lo ≤ n)
    (hm : Memory.wfFrom lo m = true) : Memory.wfFrom lo (m.writeAt n v) = true := by
  induction m generalizing lo with
  | nil => by_cases hv : v = Config.memFill <;> simp [Memory.writeAt, hv, Memory.wfFrom_cons, hn, hlo]
  | cons c rest ih =>
    obtain ⟨k, w⟩ := c
    have hc := (Memory.wfFrom_cons lo k w rest).mp hm
    rw [Memory.writeAt]
    split
    · split
      · exact hm
      · exact (Memory.wfFrom_cons ..).mpr ⟨hlo, hn, ‹_›, (Memory.wfFrom_cons ..).mpr ⟨by omega, hc.2⟩⟩
    · split
      · split
        · exact Memory.wfFrom_mono (by omega) hc.2.2.2
        · subst_vars; exact (Memory.wfFrom_cons ..).mpr ⟨hlo, hn, ‹_›, hc.2.2.2⟩
      · exact (Memory.wfFrom_cons ..).mpr ⟨hc.1, hc.2.1, hc.2.2.1, ih _ (by omega) hc.2.2.2⟩

/-- A read after a write to the same address gives the byte written. -/
theorem Memory.read_write_same {m : Memory} (hm : m.wf = true) (a : Word) (v : Byte) : (m.write a v).read a = v :=
  Memory.readAt_writeAt_same m 0 _ v hm

/-- A write leaves every other byte alone. -/
theorem Memory.read_write_other {m : Memory} (hm : m.wf = true) {a b : Word} (v : Byte) (h : b ≠ a) :
    (m.write a v).read b = m.read b :=
  Memory.readAt_writeAt_other m 0 _ _ v hm (fun e => h (BitVec.eq_of_toNat_eq e))

/-- A write keeps the canonical form. -/
theorem Memory.wf_write {m : Memory} (hm : m.wf = true) (a : Word) (v : Byte) : (m.write a v).wf = true :=
  Memory.wfFrom_writeAt m 0 _ v a.isLt (by omega) hm

/-- The memory commit of a clock edge keeps the canonical form. -/
theorem State.wf_committedMem {s : State} (hm : s.mem.wf = true) : s.committedMem.wf = true := by
  unfold State.committedMem
  split
  · exact Memory.wf_write hm _ _
  · exact hm

/-- Placing an instruction's bytes keeps the canonical form. -/
theorem Memory.wf_placeTableWord {m : Memory} (hm : m.wf = true) (p : Word) (nbits w : Nat) :
    (m.placeTableWord p nbits w).wf = true :=
  Memory.wf_write (Memory.wf_write (Memory.wf_write hm _ _) _ _) _ _

/-- The memory of the reset state is in canonical form. -/
theorem State.reset_mem_wf : State.reset.mem.wf = true := rfl

end Sys2Proof.Machine
end

