-- ==== Sys2Proof/Laws/State.lean ====
section
/-! SUPPORT. One lemma per field per named update of State, true by rfl, so that no proof unfolds a record
update. -/

namespace Sys2Proof.Machine

@[simp] theorem State.setX_a (s : State) (v : Word) : (s.setX v).a = s.a := rfl
@[simp] theorem State.setX_b (s : State) (v : Word) : (s.setX v).b = s.b := rfl
@[simp] theorem State.setX_x (s : State) (v : Word) : (s.setX v).x = v := rfl
@[simp] theorem State.setX_sp (s : State) (v : Word) : (s.setX v).sp = s.sp := rfl
@[simp] theorem State.setX_pc (s : State) (v : Word) : (s.setX v).pc = s.pc := rfl
@[simp] theorem State.setX_instr (s : State) (v : Word) : (s.setX v).instr = s.instr := rfl
@[simp] theorem State.setX_tmp8 (s : State) (v : Word) : (s.setX v).tmp8 = s.tmp8 := rfl
@[simp] theorem State.setX_tmp16 (s : State) (v : Word) : (s.setX v).tmp16 = s.tmp16 := rfl
@[simp] theorem State.setX_ccs (s : State) (v : Word) : (s.setX v).ccs = s.ccs := rfl
@[simp] theorem State.setX_cycle (s : State) (v : Word) : (s.setX v).cycle = s.cycle := rfl
@[simp] theorem State.setX_rst (s : State) (v : Word) : (s.setX v).rst = s.rst := rfl
@[simp] theorem State.setX_addr (s : State) (v : Word) : (s.setX v).addr = s.addr := rfl
@[simp] theorem State.setX_dout (s : State) (v : Word) : (s.setX v).dout = s.dout := rfl
@[simp] theorem State.setX_rw (s : State) (v : Word) : (s.setX v).rw = s.rw := rfl
@[simp] theorem State.setX_vma (s : State) (v : Word) : (s.setX v).vma = s.vma := rfl
@[simp] theorem State.setX_mem (s : State) (v : Word) : (s.setX v).mem = s.mem := rfl
@[simp] theorem State.setX_rstIn (s : State) (v : Word) : (s.setX v).rstIn = s.rstIn := rfl
@[simp] theorem State.setX_draws (s : State) (v : Word) : (s.setX v).draws = s.draws := rfl

@[simp] theorem State.setCcs_a (s : State) (v : Byte) : (s.setCcs v).a = s.a := rfl
@[simp] theorem State.setCcs_b (s : State) (v : Byte) : (s.setCcs v).b = s.b := rfl
@[simp] theorem State.setCcs_x (s : State) (v : Byte) : (s.setCcs v).x = s.x := rfl
@[simp] theorem State.setCcs_sp (s : State) (v : Byte) : (s.setCcs v).sp = s.sp := rfl
@[simp] theorem State.setCcs_pc (s : State) (v : Byte) : (s.setCcs v).pc = s.pc := rfl
@[simp] theorem State.setCcs_instr (s : State) (v : Byte) : (s.setCcs v).instr = s.instr := rfl
@[simp] theorem State.setCcs_tmp8 (s : State) (v : Byte) : (s.setCcs v).tmp8 = s.tmp8 := rfl
@[simp] theorem State.setCcs_tmp16 (s : State) (v : Byte) : (s.setCcs v).tmp16 = s.tmp16 := rfl
@[simp] theorem State.setCcs_ccs (s : State) (v : Byte) : (s.setCcs v).ccs = v := rfl
@[simp] theorem State.setCcs_cycle (s : State) (v : Byte) : (s.setCcs v).cycle = s.cycle := rfl
@[simp] theorem State.setCcs_rst (s : State) (v : Byte) : (s.setCcs v).rst = s.rst := rfl
@[simp] theorem State.setCcs_addr (s : State) (v : Byte) : (s.setCcs v).addr = s.addr := rfl
@[simp] theorem State.setCcs_dout (s : State) (v : Byte) : (s.setCcs v).dout = s.dout := rfl
@[simp] theorem State.setCcs_rw (s : State) (v : Byte) : (s.setCcs v).rw = s.rw := rfl
@[simp] theorem State.setCcs_vma (s : State) (v : Byte) : (s.setCcs v).vma = s.vma := rfl
@[simp] theorem State.setCcs_mem (s : State) (v : Byte) : (s.setCcs v).mem = s.mem := rfl
@[simp] theorem State.setCcs_rstIn (s : State) (v : Byte) : (s.setCcs v).rstIn = s.rstIn := rfl
@[simp] theorem State.setCcs_draws (s : State) (v : Byte) : (s.setCcs v).draws = s.draws := rfl

@[simp] theorem State.setInstr_a (s : State) (v : Byte) : (s.setInstr v).a = s.a := rfl
@[simp] theorem State.setInstr_b (s : State) (v : Byte) : (s.setInstr v).b = s.b := rfl
@[simp] theorem State.setInstr_x (s : State) (v : Byte) : (s.setInstr v).x = s.x := rfl
@[simp] theorem State.setInstr_sp (s : State) (v : Byte) : (s.setInstr v).sp = s.sp := rfl
@[simp] theorem State.setInstr_pc (s : State) (v : Byte) : (s.setInstr v).pc = s.pc := rfl
@[simp] theorem State.setInstr_instr (s : State) (v : Byte) : (s.setInstr v).instr = v := rfl
@[simp] theorem State.setInstr_tmp8 (s : State) (v : Byte) : (s.setInstr v).tmp8 = s.tmp8 := rfl
@[simp] theorem State.setInstr_tmp16 (s : State) (v : Byte) : (s.setInstr v).tmp16 = s.tmp16 := rfl
@[simp] theorem State.setInstr_ccs (s : State) (v : Byte) : (s.setInstr v).ccs = s.ccs := rfl
@[simp] theorem State.setInstr_cycle (s : State) (v : Byte) : (s.setInstr v).cycle = s.cycle := rfl
@[simp] theorem State.setInstr_rst (s : State) (v : Byte) : (s.setInstr v).rst = s.rst := rfl
@[simp] theorem State.setInstr_addr (s : State) (v : Byte) : (s.setInstr v).addr = s.addr := rfl
@[simp] theorem State.setInstr_dout (s : State) (v : Byte) : (s.setInstr v).dout = s.dout := rfl
@[simp] theorem State.setInstr_rw (s : State) (v : Byte) : (s.setInstr v).rw = s.rw := rfl
@[simp] theorem State.setInstr_vma (s : State) (v : Byte) : (s.setInstr v).vma = s.vma := rfl
@[simp] theorem State.setInstr_mem (s : State) (v : Byte) : (s.setInstr v).mem = s.mem := rfl
@[simp] theorem State.setInstr_rstIn (s : State) (v : Byte) : (s.setInstr v).rstIn = s.rstIn := rfl
@[simp] theorem State.setInstr_draws (s : State) (v : Byte) : (s.setInstr v).draws = s.draws := rfl

@[simp] theorem State.setTmp8_a (s : State) (v : Byte) : (s.setTmp8 v).a = s.a := rfl
@[simp] theorem State.setTmp8_b (s : State) (v : Byte) : (s.setTmp8 v).b = s.b := rfl
@[simp] theorem State.setTmp8_x (s : State) (v : Byte) : (s.setTmp8 v).x = s.x := rfl
@[simp] theorem State.setTmp8_sp (s : State) (v : Byte) : (s.setTmp8 v).sp = s.sp := rfl
@[simp] theorem State.setTmp8_pc (s : State) (v : Byte) : (s.setTmp8 v).pc = s.pc := rfl
@[simp] theorem State.setTmp8_instr (s : State) (v : Byte) : (s.setTmp8 v).instr = s.instr := rfl
@[simp] theorem State.setTmp8_tmp8 (s : State) (v : Byte) : (s.setTmp8 v).tmp8 = v := rfl
@[simp] theorem State.setTmp8_tmp16 (s : State) (v : Byte) : (s.setTmp8 v).tmp16 = s.tmp16 := rfl
@[simp] theorem State.setTmp8_ccs (s : State) (v : Byte) : (s.setTmp8 v).ccs = s.ccs := rfl
@[simp] theorem State.setTmp8_cycle (s : State) (v : Byte) : (s.setTmp8 v).cycle = s.cycle := rfl
@[simp] theorem State.setTmp8_rst (s : State) (v : Byte) : (s.setTmp8 v).rst = s.rst := rfl
@[simp] theorem State.setTmp8_addr (s : State) (v : Byte) : (s.setTmp8 v).addr = s.addr := rfl
@[simp] theorem State.setTmp8_dout (s : State) (v : Byte) : (s.setTmp8 v).dout = s.dout := rfl
@[simp] theorem State.setTmp8_rw (s : State) (v : Byte) : (s.setTmp8 v).rw = s.rw := rfl
@[simp] theorem State.setTmp8_vma (s : State) (v : Byte) : (s.setTmp8 v).vma = s.vma := rfl
@[simp] theorem State.setTmp8_mem (s : State) (v : Byte) : (s.setTmp8 v).mem = s.mem := rfl
@[simp] theorem State.setTmp8_rstIn (s : State) (v : Byte) : (s.setTmp8 v).rstIn = s.rstIn := rfl
@[simp] theorem State.setTmp8_draws (s : State) (v : Byte) : (s.setTmp8 v).draws = s.draws := rfl

@[simp] theorem State.setTmp16_a (s : State) (v : Word) : (s.setTmp16 v).a = s.a := rfl
@[simp] theorem State.setTmp16_b (s : State) (v : Word) : (s.setTmp16 v).b = s.b := rfl
@[simp] theorem State.setTmp16_x (s : State) (v : Word) : (s.setTmp16 v).x = s.x := rfl
@[simp] theorem State.setTmp16_sp (s : State) (v : Word) : (s.setTmp16 v).sp = s.sp := rfl
@[simp] theorem State.setTmp16_pc (s : State) (v : Word) : (s.setTmp16 v).pc = s.pc := rfl
@[simp] theorem State.setTmp16_instr (s : State) (v : Word) : (s.setTmp16 v).instr = s.instr := rfl
@[simp] theorem State.setTmp16_tmp8 (s : State) (v : Word) : (s.setTmp16 v).tmp8 = s.tmp8 := rfl
@[simp] theorem State.setTmp16_tmp16 (s : State) (v : Word) : (s.setTmp16 v).tmp16 = v := rfl
@[simp] theorem State.setTmp16_ccs (s : State) (v : Word) : (s.setTmp16 v).ccs = s.ccs := rfl
@[simp] theorem State.setTmp16_cycle (s : State) (v : Word) : (s.setTmp16 v).cycle = s.cycle := rfl
@[simp] theorem State.setTmp16_rst (s : State) (v : Word) : (s.setTmp16 v).rst = s.rst := rfl
@[simp] theorem State.setTmp16_addr (s : State) (v : Word) : (s.setTmp16 v).addr = s.addr := rfl
@[simp] theorem State.setTmp16_dout (s : State) (v : Word) : (s.setTmp16 v).dout = s.dout := rfl
@[simp] theorem State.setTmp16_rw (s : State) (v : Word) : (s.setTmp16 v).rw = s.rw := rfl
@[simp] theorem State.setTmp16_vma (s : State) (v : Word) : (s.setTmp16 v).vma = s.vma := rfl
@[simp] theorem State.setTmp16_mem (s : State) (v : Word) : (s.setTmp16 v).mem = s.mem := rfl
@[simp] theorem State.setTmp16_rstIn (s : State) (v : Word) : (s.setTmp16 v).rstIn = s.rstIn := rfl
@[simp] theorem State.setTmp16_draws (s : State) (v : Word) : (s.setTmp16 v).draws = s.draws := rfl

@[simp] theorem State.setDout_a (s : State) (v : Byte) : (s.setDout v).a = s.a := rfl
@[simp] theorem State.setDout_b (s : State) (v : Byte) : (s.setDout v).b = s.b := rfl
@[simp] theorem State.setDout_x (s : State) (v : Byte) : (s.setDout v).x = s.x := rfl
@[simp] theorem State.setDout_sp (s : State) (v : Byte) : (s.setDout v).sp = s.sp := rfl
@[simp] theorem State.setDout_pc (s : State) (v : Byte) : (s.setDout v).pc = s.pc := rfl
@[simp] theorem State.setDout_instr (s : State) (v : Byte) : (s.setDout v).instr = s.instr := rfl
@[simp] theorem State.setDout_tmp8 (s : State) (v : Byte) : (s.setDout v).tmp8 = s.tmp8 := rfl
@[simp] theorem State.setDout_tmp16 (s : State) (v : Byte) : (s.setDout v).tmp16 = s.tmp16 := rfl
@[simp] theorem State.setDout_ccs (s : State) (v : Byte) : (s.setDout v).ccs = s.ccs := rfl
@[simp] theorem State.setDout_cycle (s : State) (v : Byte) : (s.setDout v).cycle = s.cycle := rfl
@[simp] theorem State.setDout_rst (s : State) (v : Byte) : (s.setDout v).rst = s.rst := rfl
@[simp] theorem State.setDout_addr (s : State) (v : Byte) : (s.setDout v).addr = s.addr := rfl
@[simp] theorem State.setDout_dout (s : State) (v : Byte) : (s.setDout v).dout = v := rfl
@[simp] theorem State.setDout_rw (s : State) (v : Byte) : (s.setDout v).rw = s.rw := rfl
@[simp] theorem State.setDout_vma (s : State) (v : Byte) : (s.setDout v).vma = s.vma := rfl
@[simp] theorem State.setDout_mem (s : State) (v : Byte) : (s.setDout v).mem = s.mem := rfl
@[simp] theorem State.setDout_rstIn (s : State) (v : Byte) : (s.setDout v).rstIn = s.rstIn := rfl
@[simp] theorem State.setDout_draws (s : State) (v : Byte) : (s.setDout v).draws = s.draws := rfl

@[simp] theorem State.setMem_a (s : State) (v : Memory) : (s.setMem v).a = s.a := rfl
@[simp] theorem State.setMem_b (s : State) (v : Memory) : (s.setMem v).b = s.b := rfl
@[simp] theorem State.setMem_x (s : State) (v : Memory) : (s.setMem v).x = s.x := rfl
@[simp] theorem State.setMem_sp (s : State) (v : Memory) : (s.setMem v).sp = s.sp := rfl
@[simp] theorem State.setMem_pc (s : State) (v : Memory) : (s.setMem v).pc = s.pc := rfl
@[simp] theorem State.setMem_instr (s : State) (v : Memory) : (s.setMem v).instr = s.instr := rfl
@[simp] theorem State.setMem_tmp8 (s : State) (v : Memory) : (s.setMem v).tmp8 = s.tmp8 := rfl
@[simp] theorem State.setMem_tmp16 (s : State) (v : Memory) : (s.setMem v).tmp16 = s.tmp16 := rfl
@[simp] theorem State.setMem_ccs (s : State) (v : Memory) : (s.setMem v).ccs = s.ccs := rfl
@[simp] theorem State.setMem_cycle (s : State) (v : Memory) : (s.setMem v).cycle = s.cycle := rfl
@[simp] theorem State.setMem_rst (s : State) (v : Memory) : (s.setMem v).rst = s.rst := rfl
@[simp] theorem State.setMem_addr (s : State) (v : Memory) : (s.setMem v).addr = s.addr := rfl
@[simp] theorem State.setMem_dout (s : State) (v : Memory) : (s.setMem v).dout = s.dout := rfl
@[simp] theorem State.setMem_rw (s : State) (v : Memory) : (s.setMem v).rw = s.rw := rfl
@[simp] theorem State.setMem_vma (s : State) (v : Memory) : (s.setMem v).vma = s.vma := rfl
@[simp] theorem State.setMem_mem (s : State) (v : Memory) : (s.setMem v).mem = v := rfl
@[simp] theorem State.setMem_rstIn (s : State) (v : Memory) : (s.setMem v).rstIn = s.rstIn := rfl
@[simp] theorem State.setMem_draws (s : State) (v : Memory) : (s.setMem v).draws = s.draws := rfl

@[simp] theorem State.tick_a (s : State) : (s.tick).a = s.a := rfl
@[simp] theorem State.tick_b (s : State) : (s.tick).b = s.b := rfl
@[simp] theorem State.tick_x (s : State) : (s.tick).x = s.x := rfl
@[simp] theorem State.tick_sp (s : State) : (s.tick).sp = s.sp := rfl
@[simp] theorem State.tick_pc (s : State) : (s.tick).pc = s.pc := rfl
@[simp] theorem State.tick_instr (s : State) : (s.tick).instr = s.instr := rfl
@[simp] theorem State.tick_tmp8 (s : State) : (s.tick).tmp8 = s.tmp8 := rfl
@[simp] theorem State.tick_tmp16 (s : State) : (s.tick).tmp16 = s.tmp16 := rfl
@[simp] theorem State.tick_ccs (s : State) : (s.tick).ccs = s.ccs := rfl
@[simp] theorem State.tick_cycle (s : State) : (s.tick).cycle = s.cycle + 1 := rfl
@[simp] theorem State.tick_rst (s : State) : (s.tick).rst = s.rst := rfl
@[simp] theorem State.tick_addr (s : State) : (s.tick).addr = s.addr := rfl
@[simp] theorem State.tick_dout (s : State) : (s.tick).dout = s.dout := rfl
@[simp] theorem State.tick_rw (s : State) : (s.tick).rw = s.rw := rfl
@[simp] theorem State.tick_vma (s : State) : (s.tick).vma = true := rfl
@[simp] theorem State.tick_mem (s : State) : (s.tick).mem = s.mem := rfl
@[simp] theorem State.tick_rstIn (s : State) : (s.tick).rstIn = s.rstIn := rfl
@[simp] theorem State.tick_draws (s : State) : (s.tick).draws = s.draws := rfl

@[simp] theorem State.endInstr_a (s : State) (t : Word) : (s.endInstr t).a = s.a := rfl
@[simp] theorem State.endInstr_b (s : State) (t : Word) : (s.endInstr t).b = s.b := rfl
@[simp] theorem State.endInstr_x (s : State) (t : Word) : (s.endInstr t).x = s.x := rfl
@[simp] theorem State.endInstr_sp (s : State) (t : Word) : (s.endInstr t).sp = s.sp := rfl
@[simp] theorem State.endInstr_pc (s : State) (t : Word) : (s.endInstr t).pc = t := rfl
@[simp] theorem State.endInstr_instr (s : State) (t : Word) : (s.endInstr t).instr = s.instr := rfl
@[simp] theorem State.endInstr_tmp8 (s : State) (t : Word) : (s.endInstr t).tmp8 = s.tmp8 := rfl
@[simp] theorem State.endInstr_tmp16 (s : State) (t : Word) : (s.endInstr t).tmp16 = s.tmp16 := rfl
@[simp] theorem State.endInstr_ccs (s : State) (t : Word) : (s.endInstr t).ccs = s.ccs := rfl
@[simp] theorem State.endInstr_cycle (s : State) (t : Word) : (s.endInstr t).cycle = 0 := rfl
@[simp] theorem State.endInstr_rst (s : State) (t : Word) : (s.endInstr t).rst = s.rst := rfl
@[simp] theorem State.endInstr_addr (s : State) (t : Word) : (s.endInstr t).addr = t := rfl
@[simp] theorem State.endInstr_dout (s : State) (t : Word) : (s.endInstr t).dout = s.dout := rfl
@[simp] theorem State.endInstr_rw (s : State) (t : Word) : (s.endInstr t).rw = true := rfl
@[simp] theorem State.endInstr_vma (s : State) (t : Word) : (s.endInstr t).vma = true := rfl
@[simp] theorem State.endInstr_mem (s : State) (t : Word) : (s.endInstr t).mem = s.mem := rfl
@[simp] theorem State.endInstr_rstIn (s : State) (t : Word) : (s.endInstr t).rstIn = s.rstIn := rfl
@[simp] theorem State.endInstr_draws (s : State) (t : Word) : (s.endInstr t).draws = s.draws := rfl

@[simp] theorem State.setAcc_A_a (s : State) (v : Byte) : (s.setAcc .A v).a = v := rfl
@[simp] theorem State.setAcc_B_a (s : State) (v : Byte) : (s.setAcc .B v).a = s.a := rfl
@[simp] theorem State.setAcc_B_b (s : State) (v : Byte) : (s.setAcc .B v).b = v := rfl
@[simp] theorem State.setAcc_A_b (s : State) (v : Byte) : (s.setAcc .A v).b = s.b := rfl
@[simp] theorem State.setAcc_x (s : State) (acc : Acc) (v : Byte) : (s.setAcc acc v).x = s.x := by
  cases acc <;> rfl
@[simp] theorem State.setAcc_sp (s : State) (acc : Acc) (v : Byte) : (s.setAcc acc v).sp = s.sp := by
  cases acc <;> rfl
@[simp] theorem State.setAcc_pc (s : State) (acc : Acc) (v : Byte) : (s.setAcc acc v).pc = s.pc := by
  cases acc <;> rfl
@[simp] theorem State.setAcc_instr (s : State) (acc : Acc) (v : Byte) : (s.setAcc acc v).instr = s.instr := by
  cases acc <;> rfl
@[simp] theorem State.setAcc_tmp8 (s : State) (acc : Acc) (v : Byte) : (s.setAcc acc v).tmp8 = s.tmp8 := by
  cases acc <;> rfl
@[simp] theorem State.setAcc_tmp16 (s : State) (acc : Acc) (v : Byte) : (s.setAcc acc v).tmp16 = s.tmp16 := by
  cases acc <;> rfl
@[simp] theorem State.setAcc_ccs (s : State) (acc : Acc) (v : Byte) : (s.setAcc acc v).ccs = s.ccs := by
  cases acc <;> rfl
@[simp] theorem State.setAcc_cycle (s : State) (acc : Acc) (v : Byte) : (s.setAcc acc v).cycle = s.cycle := by
  cases acc <;> rfl
@[simp] theorem State.setAcc_rst (s : State) (acc : Acc) (v : Byte) : (s.setAcc acc v).rst = s.rst := by
  cases acc <;> rfl
@[simp] theorem State.setAcc_addr (s : State) (acc : Acc) (v : Byte) : (s.setAcc acc v).addr = s.addr := by
  cases acc <;> rfl
@[simp] theorem State.setAcc_dout (s : State) (acc : Acc) (v : Byte) : (s.setAcc acc v).dout = s.dout := by
  cases acc <;> rfl
@[simp] theorem State.setAcc_rw (s : State) (acc : Acc) (v : Byte) : (s.setAcc acc v).rw = s.rw := by
  cases acc <;> rfl
@[simp] theorem State.setAcc_vma (s : State) (acc : Acc) (v : Byte) : (s.setAcc acc v).vma = s.vma := by
  cases acc <;> rfl
@[simp] theorem State.setAcc_mem (s : State) (acc : Acc) (v : Byte) : (s.setAcc acc v).mem = s.mem := by
  cases acc <;> rfl
@[simp] theorem State.setAcc_rstIn (s : State) (acc : Acc) (v : Byte) : (s.setAcc acc v).rstIn = s.rstIn := by
  cases acc <;> rfl
@[simp] theorem State.setAcc_draws (s : State) (acc : Acc) (v : Byte) : (s.setAcc acc v).draws = s.draws := by
  cases acc <;> rfl

@[simp] theorem State.atReset_a (l : Launch) (m : Memory) (ins : List Bool) (n : Nat) :
    (State.atReset l m ins n).a = l.a := rfl
@[simp] theorem State.atReset_b (l : Launch) (m : Memory) (ins : List Bool) (n : Nat) :
    (State.atReset l m ins n).b = l.b := rfl
@[simp] theorem State.atReset_x (l : Launch) (m : Memory) (ins : List Bool) (n : Nat) :
    (State.atReset l m ins n).x = l.x := rfl
@[simp] theorem State.atReset_sp (l : Launch) (m : Memory) (ins : List Bool) (n : Nat) :
    (State.atReset l m ins n).sp = l.sp := rfl
@[simp] theorem State.atReset_pc (l : Launch) (m : Memory) (ins : List Bool) (n : Nat) :
    (State.atReset l m ins n).pc = l.pc := rfl
@[simp] theorem State.atReset_instr (l : Launch) (m : Memory) (ins : List Bool) (n : Nat) :
    (State.atReset l m ins n).instr = l.instr := rfl
@[simp] theorem State.atReset_tmp8 (l : Launch) (m : Memory) (ins : List Bool) (n : Nat) :
    (State.atReset l m ins n).tmp8 = l.tmp8 := rfl
@[simp] theorem State.atReset_tmp16 (l : Launch) (m : Memory) (ins : List Bool) (n : Nat) :
    (State.atReset l m ins n).tmp16 = l.tmp16 := rfl
@[simp] theorem State.atReset_ccs (l : Launch) (m : Memory) (ins : List Bool) (n : Nat) :
    (State.atReset l m ins n).ccs = Config.ccsReset := rfl
@[simp] theorem State.atReset_cycle (l : Launch) (m : Memory) (ins : List Bool) (n : Nat) :
    (State.atReset l m ins n).cycle = 0 := rfl
@[simp] theorem State.atReset_rst (l : Launch) (m : Memory) (ins : List Bool) (n : Nat) :
    (State.atReset l m ins n).rst = 0 := rfl
@[simp] theorem State.atReset_addr (l : Launch) (m : Memory) (ins : List Bool) (n : Nat) :
    (State.atReset l m ins n).addr = l.addr := rfl
@[simp] theorem State.atReset_dout (l : Launch) (m : Memory) (ins : List Bool) (n : Nat) :
    (State.atReset l m ins n).dout = l.dout := rfl
@[simp] theorem State.atReset_rw (l : Launch) (m : Memory) (ins : List Bool) (n : Nat) :
    (State.atReset l m ins n).rw = true := rfl
@[simp] theorem State.atReset_vma (l : Launch) (m : Memory) (ins : List Bool) (n : Nat) :
    (State.atReset l m ins n).vma = false := rfl
@[simp] theorem State.atReset_mem (l : Launch) (m : Memory) (ins : List Bool) (n : Nat) :
    (State.atReset l m ins n).mem = m := rfl
@[simp] theorem State.atReset_rstIn (l : Launch) (m : Memory) (ins : List Bool) (n : Nat) :
    (State.atReset l m ins n).rstIn = ins := rfl
@[simp] theorem State.atReset_draws (l : Launch) (m : Memory) (ins : List Bool) (n : Nat) :
    (State.atReset l m ins n).draws = n := rfl

@[simp] theorem State.acc_setAcc (s : State) (acc : Acc) (v : Byte) : (s.setAcc acc v).acc acc = v := by
  cases acc <;> rfl

theorem State.acc_setAcc_of_ne (s : State) {acc other : Acc} (v : Byte) (h : other ≠ acc) :
    (s.setAcc acc v).acc other = s.acc other := by
  cases acc <;> cases other <;> first | rfl | exact absurd rfl h

@[simp] theorem State.acc_A (s : State) : s.acc .A = s.a := rfl
@[simp] theorem State.acc_B (s : State) : s.acc .B = s.b := rfl

/-- A period in which the core reads sees the byte at `ADDR`. -/
theorem State.din_of_read {s : State} (h : s.rw = true) : s.din = s.mem.read s.addr := by
  simp [State.din, h]

/-- A period in which the core reads commits nothing. -/
theorem State.committedMem_of_read {s : State} (h : s.rw = true) : s.committedMem = s.mem := by
  simp [State.committedMem, h]

/-- A dead period commits nothing. -/
theorem State.committedMem_of_dead {s : State} (h : s.vma = false) : s.committedMem = s.mem := by
  simp [State.committedMem, h]

/-- A write period commits `DOUT` at `ADDR`. -/
theorem State.committedMem_of_write {s : State} (h : s.rw = false) (h' : s.vma = true) :
    s.committedMem = s.mem.write s.addr s.dout := by
  simp [State.committedMem, h, h']

end Sys2Proof.Machine
end

