-- ==== Sys2Proof/Laws/Words.lean ====
section
/-! SUPPORT. The byte halves of a word. -/

namespace Sys2Proof

@[simp] theorem joinBytes_hiByte_loByte (w : Word) : joinBytes (hiByte w) (loByte w) = w := by
  apply BitVec.eq_of_toNat_eq
  simp [joinBytes, hiByte, loByte]
  have := w.isLt
  omega

@[simp] theorem hiByte_joinBytes (hi lo : Byte) : hiByte (joinBytes hi lo) = hi := by
  apply BitVec.eq_of_toNat_eq
  simp [joinBytes, hiByte]
  have := hi.isLt
  have := lo.isLt
  omega

@[simp] theorem loByte_joinBytes (hi lo : Byte) : loByte (joinBytes hi lo) = lo := by
  apply BitVec.eq_of_toNat_eq
  simp [joinBytes, loByte]
  have := hi.isLt
  have := lo.isLt
  omega

/-- What must be shown of every byte may be shown of the 256 numerals. -/
theorem forall_byte {P : Byte → Prop} (h : ∀ n : Fin 256, P (BitVec.ofFin n)) : ∀ b, P b := fun b => h b.toFin

end Sys2Proof
end

