-- ==== Sys2Proof/Laws/Effects.lean ====
section
/-! SUPPORT. What an instruction can do, said once: every arm of `exec` is one of eleven shared effects
(`exec_action`), and every field of the state an effect leaves has its lemma here. -/

namespace Sys2Proof

open Machine

/-- The effect of each instruction. -/
def Instr.action : Instr → Action
  | .nop => .skip
  | .tap => .tap
  | .tpa => .tpa
  | .inx => .index true
  | .dex => .index false
  | .clv => .flag .clv
  | .sev => .flag .sev
  | .clc => .flag .clc
  | .sec => .flag .sec
  | .cli => .flag .cli
  | .sei => .flag .sei
  | .bra rr => .branch 0 false rr
  | .brn rr => .branch 0 true rr
  | .bhi rr => .branch 1 false rr
  | .bls rr => .branch 1 true rr
  | .bcc rr => .branch 2 false rr
  | .bcs rr => .branch 2 true rr
  | .bne rr => .branch 3 false rr
  | .beq rr => .branch 3 true rr
  | .bvc rr => .branch 4 false rr
  | .bvs rr => .branch 4 true rr
  | .bpl rr => .branch 5 false rr
  | .bmi rr => .branch 5 true rr
  | .bge rr => .branch 6 false rr
  | .blt rr => .branch 6 true rr
  | .bgt rr => .branch 7 false rr
  | .ble rr => .branch 7 true rr
  | .nega => .rmwAcc .neg .A
  | .coma => .rmwAcc .com .A
  | .lsra => .rmwAcc .lsr .A
  | .rora => .rmwAcc .ror .A
  | .asra => .rmwAcc .asr .A
  | .asla => .rmwAcc .asl .A
  | .rola => .rmwAcc .rol .A
  | .deca => .rmwAcc .dec .A
  | .inca => .rmwAcc .inc .A
  | .tsta => .rmwAcc .tst .A
  | .clra => .rmwAcc .clr .A
  | .negb => .rmwAcc .neg .B
  | .comb => .rmwAcc .com .B
  | .lsrb => .rmwAcc .lsr .B
  | .rorb => .rmwAcc .ror .B
  | .asrb => .rmwAcc .asr .B
  | .aslb => .rmwAcc .asl .B
  | .rolb => .rmwAcc .rol .B
  | .decb => .rmwAcc .dec .B
  | .incb => .rmwAcc .inc .B
  | .tstb => .rmwAcc .tst .B
  | .clrb => .rmwAcc .clr .B
  | .negIdx ff => .rmwMem .neg (.idx ff)
  | .comIdx ff => .rmwMem .com (.idx ff)
  | .lsrIdx ff => .rmwMem .lsr (.idx ff)
  | .rorIdx ff => .rmwMem .ror (.idx ff)
  | .asrIdx ff => .rmwMem .asr (.idx ff)
  | .aslIdx ff => .rmwMem .asl (.idx ff)
  | .rolIdx ff => .rmwMem .rol (.idx ff)
  | .decIdx ff => .rmwMem .dec (.idx ff)
  | .incIdx ff => .rmwMem .inc (.idx ff)
  | .tstIdx ff => .rmwMem .tst (.idx ff)
  | .jmpIdx ff => .jump (.idx ff)
  | .clrIdx ff => .rmwMem .clr (.idx ff)
  | .negExt hhll => .rmwMem .neg (.ext hhll)
  | .comExt hhll => .rmwMem .com (.ext hhll)
  | .lsrExt hhll => .rmwMem .lsr (.ext hhll)
  | .rorExt hhll => .rmwMem .ror (.ext hhll)
  | .asrExt hhll => .rmwMem .asr (.ext hhll)
  | .aslExt hhll => .rmwMem .asl (.ext hhll)
  | .rolExt hhll => .rmwMem .rol (.ext hhll)
  | .decExt hhll => .rmwMem .dec (.ext hhll)
  | .incExt hhll => .rmwMem .inc (.ext hhll)
  | .tstExt hhll => .rmwMem .tst (.ext hhll)
  | .jmpExt hhll => .jump (.ext hhll)
  | .clrExt hhll => .rmwMem .clr (.ext hhll)
  | .subaImm ii => .read .sub .A (.imm ii)
  | .cmpaImm ii => .read .cmp .A (.imm ii)
  | .sbcaImm ii => .read .sbc .A (.imm ii)
  | .andaImm ii => .read .and .A (.imm ii)
  | .bitaImm ii => .read .bit .A (.imm ii)
  | .ldaaImm ii => .read .lda .A (.imm ii)
  | .eoraImm ii => .read .eor .A (.imm ii)
  | .adcaImm ii => .read .adc .A (.imm ii)
  | .oraaImm ii => .read .ora .A (.imm ii)
  | .addaImm ii => .read .add .A (.imm ii)
  | .subaDir dd => .read .sub .A (.dir dd)
  | .cmpaDir dd => .read .cmp .A (.dir dd)
  | .sbcaDir dd => .read .sbc .A (.dir dd)
  | .andaDir dd => .read .and .A (.dir dd)
  | .bitaDir dd => .read .bit .A (.dir dd)
  | .ldaaDir dd => .read .lda .A (.dir dd)
  | .staaDir dd => .store .A (.dir dd)
  | .eoraDir dd => .read .eor .A (.dir dd)
  | .adcaDir dd => .read .adc .A (.dir dd)
  | .oraaDir dd => .read .ora .A (.dir dd)
  | .addaDir dd => .read .add .A (.dir dd)
  | .subaIdx ff => .read .sub .A (.idx ff)
  | .cmpaIdx ff => .read .cmp .A (.idx ff)
  | .sbcaIdx ff => .read .sbc .A (.idx ff)
  | .andaIdx ff => .read .and .A (.idx ff)
  | .bitaIdx ff => .read .bit .A (.idx ff)
  | .ldaaIdx ff => .read .lda .A (.idx ff)
  | .staaIdx ff => .store .A (.idx ff)
  | .eoraIdx ff => .read .eor .A (.idx ff)
  | .adcaIdx ff => .read .adc .A (.idx ff)
  | .oraaIdx ff => .read .ora .A (.idx ff)
  | .addaIdx ff => .read .add .A (.idx ff)
  | .subaExt hhll => .read .sub .A (.ext hhll)
  | .cmpaExt hhll => .read .cmp .A (.ext hhll)
  | .sbcaExt hhll => .read .sbc .A (.ext hhll)
  | .andaExt hhll => .read .and .A (.ext hhll)
  | .bitaExt hhll => .read .bit .A (.ext hhll)
  | .ldaaExt hhll => .read .lda .A (.ext hhll)
  | .staaExt hhll => .store .A (.ext hhll)
  | .eoraExt hhll => .read .eor .A (.ext hhll)
  | .adcaExt hhll => .read .adc .A (.ext hhll)
  | .oraaExt hhll => .read .ora .A (.ext hhll)
  | .addaExt hhll => .read .add .A (.ext hhll)
  | .subbImm ii => .read .sub .B (.imm ii)
  | .cmpbImm ii => .read .cmp .B (.imm ii)
  | .sbcbImm ii => .read .sbc .B (.imm ii)
  | .andbImm ii => .read .and .B (.imm ii)
  | .bitbImm ii => .read .bit .B (.imm ii)
  | .ldabImm ii => .read .lda .B (.imm ii)
  | .eorbImm ii => .read .eor .B (.imm ii)
  | .adcbImm ii => .read .adc .B (.imm ii)
  | .orabImm ii => .read .ora .B (.imm ii)
  | .addbImm ii => .read .add .B (.imm ii)
  | .subbDir dd => .read .sub .B (.dir dd)
  | .cmpbDir dd => .read .cmp .B (.dir dd)
  | .sbcbDir dd => .read .sbc .B (.dir dd)
  | .andbDir dd => .read .and .B (.dir dd)
  | .bitbDir dd => .read .bit .B (.dir dd)
  | .ldabDir dd => .read .lda .B (.dir dd)
  | .stabDir dd => .store .B (.dir dd)
  | .eorbDir dd => .read .eor .B (.dir dd)
  | .adcbDir dd => .read .adc .B (.dir dd)
  | .orabDir dd => .read .ora .B (.dir dd)
  | .addbDir dd => .read .add .B (.dir dd)
  | .subbIdx ff => .read .sub .B (.idx ff)
  | .cmpbIdx ff => .read .cmp .B (.idx ff)
  | .sbcbIdx ff => .read .sbc .B (.idx ff)
  | .andbIdx ff => .read .and .B (.idx ff)
  | .bitbIdx ff => .read .bit .B (.idx ff)
  | .ldabIdx ff => .read .lda .B (.idx ff)
  | .stabIdx ff => .store .B (.idx ff)
  | .eorbIdx ff => .read .eor .B (.idx ff)
  | .adcbIdx ff => .read .adc .B (.idx ff)
  | .orabIdx ff => .read .ora .B (.idx ff)
  | .addbIdx ff => .read .add .B (.idx ff)
  | .subbExt hhll => .read .sub .B (.ext hhll)
  | .cmpbExt hhll => .read .cmp .B (.ext hhll)
  | .sbcbExt hhll => .read .sbc .B (.ext hhll)
  | .andbExt hhll => .read .and .B (.ext hhll)
  | .bitbExt hhll => .read .bit .B (.ext hhll)
  | .ldabExt hhll => .read .lda .B (.ext hhll)
  | .stabExt hhll => .store .B (.ext hhll)
  | .eorbExt hhll => .read .eor .B (.ext hhll)
  | .adcbExt hhll => .read .adc .B (.ext hhll)
  | .orabExt hhll => .read .ora .B (.ext hhll)
  | .addbExt hhll => .read .add .B (.ext hhll)
  | .unrecognised _ => .skip

end Sys2Proof

namespace Sys2Proof.Machine

/-- Everything an instruction can do. -/
theorem exec_action (i : Instr) (s : State) : exec i s = .next (i.action.effect s) := by
  cases i <;> rfl

/-! ## The end of the instruction (40 R124) -/

@[simp] theorem Action.effect_cycle (k : Action) (s : State) : (k.effect s).cycle = 0 := by
  cases k <;> simp only [effect, skipEffect, tapEffect, tpaEffect, flagEffect, indexEffect, branchEffect, rmwAccEffect,
    rmwMemEffect, jumpEffect, readEffect, storeEffect, State.endInstr_cycle]
@[simp] theorem Action.effect_rw (k : Action) (s : State) : (k.effect s).rw = true := by
  cases k <;> simp only [effect, skipEffect, tapEffect, tpaEffect, flagEffect, indexEffect, branchEffect, rmwAccEffect,
    rmwMemEffect, jumpEffect, readEffect, storeEffect, State.endInstr_rw]
@[simp] theorem Action.effect_vma (k : Action) (s : State) : (k.effect s).vma = true := by
  cases k <;> simp only [effect, skipEffect, tapEffect, tpaEffect, flagEffect, indexEffect, branchEffect, rmwAccEffect,
    rmwMemEffect, jumpEffect, readEffect, storeEffect, State.endInstr_vma]
@[simp] theorem Action.effect_addr (k : Action) (s : State) : (k.effect s).addr = (k.effect s).pc := by
  cases k <;> simp only [effect, skipEffect, tapEffect, tpaEffect, flagEffect, indexEffect, branchEffect, rmwAccEffect,
    rmwMemEffect, jumpEffect, readEffect, storeEffect, State.endInstr_addr, State.endInstr_pc]

/-- Where the instruction ends. -/
def Action.nextPc : Action → State → Word
  | .skip, s | .tap, s | .tpa, s | .flag _, s | .index _, s | .rmwAcc _ _, s => s.pc + 1
  | .branch sel inv rr, s => if branchTaken sel inv s.ccs then branchTarget s.pc rr else s.pc + 2
  | .rmwMem _ o, s => s.pc + o.length
  | .jump o, s => o.ea s
  | .read _ _ o, s => s.pc + o.length
  | .store _ o, s => s.pc + o.length

@[simp] theorem Action.effect_pc (k : Action) (s : State) : (k.effect s).pc = k.nextPc s := by
  cases k <;> simp only [effect, skipEffect, tapEffect, tpaEffect, flagEffect, indexEffect, branchEffect, rmwAccEffect,
    rmwMemEffect, jumpEffect, readEffect, storeEffect, nextPc, State.endInstr_pc]

/-! ## What no instruction touches -/

theorem readFire_frame (alu : Alu) (op : ReadOp) (acc : Acc) (v : Byte) (s : State) :
    readFire alu op acc v s =
      { s with a := (readFire alu op acc v s).a, b := (readFire alu op acc v s).b
               ccs := (alu op.func (s.acc acc) v s.ccs).flags } := by
  cases op <;> cases acc <;> rfl

theorem rmwAccFire_frame (alu : Alu) (op : RmwOp) (acc : Acc) (s : State) :
    rmwAccFire alu op acc s =
      { s with a := (rmwAccFire alu op acc s).a, b := (rmwAccFire alu op acc s).b
               ccs := (op.compute alu (s.acc acc) s.ccs).flags } := by
  cases op <;> cases acc <;> rfl

theorem latch_frame (o : ReadOperand) (s : State) :
    o.latch s = { s with tmp8 := (o.latch s).tmp8, tmp16 := (o.latch s).tmp16 } := by cases o <;> rfl

theorem readFire_ccs (alu : Alu) (op : ReadOp) (acc : Acc) (v : Byte) (s : State) :
    (readFire alu op acc v s).ccs = (alu op.func (s.acc acc) v s.ccs).flags := by cases op <;> rfl

theorem readFire_acc (alu : Alu) (op : ReadOp) (q acc : Acc) (v : Byte) (s : State) :
    (readFire alu op q v s).acc acc =
      if q = acc ∧ op.stores = true then (alu op.func (s.acc acc) v s.ccs).result else s.acc acc := by
  cases op <;> cases acc <;> cases q <;> rfl

theorem rmwAccFire_ccs (alu : Alu) (op : RmwOp) (acc : Acc) (s : State) :
    (rmwAccFire alu op acc s).ccs = (op.compute alu (s.acc acc) s.ccs).flags := by cases op <;> rfl

theorem rmwAccFire_acc (alu : Alu) (op : RmwOp) (q acc : Acc) (s : State) :
    (rmwAccFire alu op q s).acc acc =
      if q = acc ∧ op.stores = true then (op.compute alu (s.acc acc) s.ccs).result else s.acc acc := by
  cases op <;> cases acc <;> cases q <;> rfl

@[simp] theorem readFire_x (alu : Alu) (op : ReadOp) (acc : Acc) (v : Byte) (s : State) :
    (readFire alu op acc v s).x = s.x := by rw [readFire_frame]
@[simp] theorem rmwAccFire_x (alu : Alu) (op : RmwOp) (acc : Acc) (s : State) :
    (rmwAccFire alu op acc s).x = s.x := by rw [rmwAccFire_frame]
@[simp] theorem latch_x (o : ReadOperand) (s : State) : (o.latch s).x = s.x := by rw [latch_frame]
@[simp] theorem readFire_sp (alu : Alu) (op : ReadOp) (acc : Acc) (v : Byte) (s : State) :
    (readFire alu op acc v s).sp = s.sp := by rw [readFire_frame]
@[simp] theorem rmwAccFire_sp (alu : Alu) (op : RmwOp) (acc : Acc) (s : State) :
    (rmwAccFire alu op acc s).sp = s.sp := by rw [rmwAccFire_frame]
@[simp] theorem latch_sp (o : ReadOperand) (s : State) : (o.latch s).sp = s.sp := by rw [latch_frame]
@[simp] theorem readFire_pc (alu : Alu) (op : ReadOp) (acc : Acc) (v : Byte) (s : State) :
    (readFire alu op acc v s).pc = s.pc := by rw [readFire_frame]
@[simp] theorem rmwAccFire_pc (alu : Alu) (op : RmwOp) (acc : Acc) (s : State) :
    (rmwAccFire alu op acc s).pc = s.pc := by rw [rmwAccFire_frame]
@[simp] theorem latch_pc (o : ReadOperand) (s : State) : (o.latch s).pc = s.pc := by rw [latch_frame]
@[simp] theorem readFire_instr (alu : Alu) (op : ReadOp) (acc : Acc) (v : Byte) (s : State) :
    (readFire alu op acc v s).instr = s.instr := by rw [readFire_frame]
@[simp] theorem rmwAccFire_instr (alu : Alu) (op : RmwOp) (acc : Acc) (s : State) :
    (rmwAccFire alu op acc s).instr = s.instr := by rw [rmwAccFire_frame]
@[simp] theorem latch_instr (o : ReadOperand) (s : State) : (o.latch s).instr = s.instr := by rw [latch_frame]
@[simp] theorem readFire_tmp8 (alu : Alu) (op : ReadOp) (acc : Acc) (v : Byte) (s : State) :
    (readFire alu op acc v s).tmp8 = s.tmp8 := by rw [readFire_frame]
@[simp] theorem rmwAccFire_tmp8 (alu : Alu) (op : RmwOp) (acc : Acc) (s : State) :
    (rmwAccFire alu op acc s).tmp8 = s.tmp8 := by rw [rmwAccFire_frame]
@[simp] theorem readFire_tmp16 (alu : Alu) (op : ReadOp) (acc : Acc) (v : Byte) (s : State) :
    (readFire alu op acc v s).tmp16 = s.tmp16 := by rw [readFire_frame]
@[simp] theorem rmwAccFire_tmp16 (alu : Alu) (op : RmwOp) (acc : Acc) (s : State) :
    (rmwAccFire alu op acc s).tmp16 = s.tmp16 := by rw [rmwAccFire_frame]
@[simp] theorem readFire_cycle (alu : Alu) (op : ReadOp) (acc : Acc) (v : Byte) (s : State) :
    (readFire alu op acc v s).cycle = s.cycle := by rw [readFire_frame]
@[simp] theorem rmwAccFire_cycle (alu : Alu) (op : RmwOp) (acc : Acc) (s : State) :
    (rmwAccFire alu op acc s).cycle = s.cycle := by rw [rmwAccFire_frame]
@[simp] theorem latch_cycle (o : ReadOperand) (s : State) : (o.latch s).cycle = s.cycle := by rw [latch_frame]
@[simp] theorem readFire_rst (alu : Alu) (op : ReadOp) (acc : Acc) (v : Byte) (s : State) :
    (readFire alu op acc v s).rst = s.rst := by rw [readFire_frame]
@[simp] theorem rmwAccFire_rst (alu : Alu) (op : RmwOp) (acc : Acc) (s : State) :
    (rmwAccFire alu op acc s).rst = s.rst := by rw [rmwAccFire_frame]
@[simp] theorem latch_rst (o : ReadOperand) (s : State) : (o.latch s).rst = s.rst := by rw [latch_frame]
@[simp] theorem readFire_addr (alu : Alu) (op : ReadOp) (acc : Acc) (v : Byte) (s : State) :
    (readFire alu op acc v s).addr = s.addr := by rw [readFire_frame]
@[simp] theorem rmwAccFire_addr (alu : Alu) (op : RmwOp) (acc : Acc) (s : State) :
    (rmwAccFire alu op acc s).addr = s.addr := by rw [rmwAccFire_frame]
@[simp] theorem latch_addr (o : ReadOperand) (s : State) : (o.latch s).addr = s.addr := by rw [latch_frame]
@[simp] theorem readFire_dout (alu : Alu) (op : ReadOp) (acc : Acc) (v : Byte) (s : State) :
    (readFire alu op acc v s).dout = s.dout := by rw [readFire_frame]
@[simp] theorem rmwAccFire_dout (alu : Alu) (op : RmwOp) (acc : Acc) (s : State) :
    (rmwAccFire alu op acc s).dout = s.dout := by rw [rmwAccFire_frame]
@[simp] theorem latch_dout (o : ReadOperand) (s : State) : (o.latch s).dout = s.dout := by rw [latch_frame]
@[simp] theorem readFire_rw (alu : Alu) (op : ReadOp) (acc : Acc) (v : Byte) (s : State) :
    (readFire alu op acc v s).rw = s.rw := by rw [readFire_frame]
@[simp] theorem rmwAccFire_rw (alu : Alu) (op : RmwOp) (acc : Acc) (s : State) :
    (rmwAccFire alu op acc s).rw = s.rw := by rw [rmwAccFire_frame]
@[simp] theorem latch_rw (o : ReadOperand) (s : State) : (o.latch s).rw = s.rw := by rw [latch_frame]
@[simp] theorem readFire_vma (alu : Alu) (op : ReadOp) (acc : Acc) (v : Byte) (s : State) :
    (readFire alu op acc v s).vma = s.vma := by rw [readFire_frame]
@[simp] theorem rmwAccFire_vma (alu : Alu) (op : RmwOp) (acc : Acc) (s : State) :
    (rmwAccFire alu op acc s).vma = s.vma := by rw [rmwAccFire_frame]
@[simp] theorem latch_vma (o : ReadOperand) (s : State) : (o.latch s).vma = s.vma := by rw [latch_frame]
@[simp] theorem readFire_mem (alu : Alu) (op : ReadOp) (acc : Acc) (v : Byte) (s : State) :
    (readFire alu op acc v s).mem = s.mem := by rw [readFire_frame]
@[simp] theorem rmwAccFire_mem (alu : Alu) (op : RmwOp) (acc : Acc) (s : State) :
    (rmwAccFire alu op acc s).mem = s.mem := by rw [rmwAccFire_frame]
@[simp] theorem latch_mem (o : ReadOperand) (s : State) : (o.latch s).mem = s.mem := by rw [latch_frame]
@[simp] theorem readFire_rstIn (alu : Alu) (op : ReadOp) (acc : Acc) (v : Byte) (s : State) :
    (readFire alu op acc v s).rstIn = s.rstIn := by rw [readFire_frame]
@[simp] theorem rmwAccFire_rstIn (alu : Alu) (op : RmwOp) (acc : Acc) (s : State) :
    (rmwAccFire alu op acc s).rstIn = s.rstIn := by rw [rmwAccFire_frame]
@[simp] theorem latch_rstIn (o : ReadOperand) (s : State) : (o.latch s).rstIn = s.rstIn := by rw [latch_frame]
@[simp] theorem readFire_draws (alu : Alu) (op : ReadOp) (acc : Acc) (v : Byte) (s : State) :
    (readFire alu op acc v s).draws = s.draws := by rw [readFire_frame]
@[simp] theorem rmwAccFire_draws (alu : Alu) (op : RmwOp) (acc : Acc) (s : State) :
    (rmwAccFire alu op acc s).draws = s.draws := by rw [rmwAccFire_frame]
@[simp] theorem latch_draws (o : ReadOperand) (s : State) : (o.latch s).draws = s.draws := by rw [latch_frame]

@[simp] theorem latch_ccs (o : ReadOperand) (s : State) : (o.latch s).ccs = s.ccs := by cases o <;> rfl
@[simp] theorem latch_acc (o : ReadOperand) (acc : Acc) (s : State) : (o.latch s).acc acc = s.acc acc := by
  cases o <;> rfl
@[simp] theorem State.acc_endInstr (acc : Acc) (s : State) (t : Word) : (s.endInstr t).acc acc = s.acc acc := by
  cases acc <;> rfl

@[simp] theorem Action.effect_sp (k : Action) (s : State) : (k.effect s).sp = s.sp := by
  cases k with
  | read op acc o => simp only [effect, readEffect, State.endInstr_sp]; rw [readFire_frame, latch_frame]
  | rmwAcc op acc => simp only [effect, rmwAccEffect, State.endInstr_sp]; rw [rmwAccFire_frame]
  | rmwMem op o => simp only [effect, rmwMemEffect, State.endInstr_sp, State.setDout_sp, State.setTmp16_sp, State.setTmp8_sp, State.setCcs_sp, State.setMem_sp]
  | _ => rfl

@[simp] theorem Action.effect_rst (k : Action) (s : State) : (k.effect s).rst = s.rst := by
  cases k with
  | read op acc o => simp only [effect, readEffect, State.endInstr_rst]; rw [readFire_frame, latch_frame]
  | rmwAcc op acc => simp only [effect, rmwAccEffect, State.endInstr_rst]; rw [rmwAccFire_frame]
  | rmwMem op o => simp only [effect, rmwMemEffect, State.endInstr_rst, State.setDout_rst, State.setTmp16_rst, State.setTmp8_rst, State.setCcs_rst, State.setMem_rst]
  | _ => rfl

@[simp] theorem Action.effect_instr (k : Action) (s : State) : (k.effect s).instr = s.instr := by
  cases k with
  | read op acc o => simp only [effect, readEffect, State.endInstr_instr]; rw [readFire_frame, latch_frame]
  | rmwAcc op acc => simp only [effect, rmwAccEffect, State.endInstr_instr]; rw [rmwAccFire_frame]
  | rmwMem op o => simp only [effect, rmwMemEffect, State.endInstr_instr, State.setDout_instr, State.setTmp16_instr, State.setTmp8_instr, State.setCcs_instr, State.setMem_instr]
  | _ => rfl

@[simp] theorem Action.effect_rstIn (k : Action) (s : State) : (k.effect s).rstIn = s.rstIn := by
  cases k with
  | read op acc o => simp only [effect, readEffect, State.endInstr_rstIn]; rw [readFire_frame, latch_frame]
  | rmwAcc op acc => simp only [effect, rmwAccEffect, State.endInstr_rstIn]; rw [rmwAccFire_frame]
  | rmwMem op o => simp only [effect, rmwMemEffect, State.endInstr_rstIn, State.setDout_rstIn, State.setTmp16_rstIn, State.setTmp8_rstIn, State.setCcs_rstIn, State.setMem_rstIn]
  | _ => rfl

@[simp] theorem Action.effect_draws (k : Action) (s : State) : (k.effect s).draws = s.draws := by
  cases k with
  | read op acc o => simp only [effect, readEffect, State.endInstr_draws]; rw [readFire_frame, latch_frame]
  | rmwAcc op acc => simp only [effect, rmwAccEffect, State.endInstr_draws]; rw [rmwAccFire_frame]
  | rmwMem op o => simp only [effect, rmwMemEffect, State.endInstr_draws, State.setDout_draws, State.setTmp16_draws, State.setTmp8_draws, State.setCcs_draws, State.setMem_draws]
  | _ => rfl

/-! ## What an instruction writes -/

/-- The index register after (47 R321). -/
def Action.nextX : Action → State → Word
  | .index up, s => if up then s.x + 1 else s.x - 1
  | _, s => s.x

@[simp] theorem Action.effect_x (k : Action) (s : State) : (k.effect s).x = k.nextX s := by
  cases k with
  | read op acc o => simp only [effect, nextX, readEffect, State.endInstr_x]; rw [readFire_frame, latch_frame]
  | rmwAcc op acc => simp only [effect, nextX, rmwAccEffect, State.endInstr_x]; rw [rmwAccFire_frame]
  | rmwMem op o => simp only [effect, nextX, rmwMemEffect, State.endInstr_x, State.setDout_x, State.setTmp16_x, State.setTmp8_x, State.setCcs_x, State.setMem_x]
  | _ => rfl

/-- The memory after (43 R232, 45 R291). -/
def Action.nextMem : Action → State → Memory
  | .rmwMem op o, s =>
    if op.stores then s.mem.write (o.ea s) (op.compute machineAlu (s.mem.read (o.ea s)) s.ccs).result else s.mem
  | .store acc o, s => s.mem.write (o.ea s) (s.acc acc)
  | _, s => s.mem

@[simp] theorem Action.effect_mem (k : Action) (s : State) : (k.effect s).mem = k.nextMem s := by
  cases k with
  | read op acc o => simp only [effect, nextMem, readEffect, State.endInstr_mem]; rw [readFire_frame, latch_frame]
  | rmwAcc op acc => simp only [effect, nextMem, rmwAccEffect, State.endInstr_mem]; rw [rmwAccFire_frame]
  | rmwMem op o => simp only [effect, nextMem, rmwMemEffect, State.endInstr_mem, State.setDout_mem, State.setTmp16_mem, State.setTmp8_mem, State.setCcs_mem, State.setMem_mem]
  | _ => rfl

theorem Action.wf_nextMem (k : Action) {s : State} (h : s.mem.wf = true) : (k.nextMem s).wf = true := by
  cases k with
  | rmwMem op o => simp only [nextMem]; split <;> simp [Memory.wf_write, h]
  | store acc o => simp [nextMem, Memory.wf_write, h]
  | _ => exact h

/-- The flags after. -/
def Action.nextCcs : Action → State → Byte
  | .skip, s | .branch _ _ _, s | .jump _, s => s.ccs
  | .tap, s => (machineAlu .tap s.a 0x00 s.ccs).flags
  | .tpa, s => (machineAlu .tpa 0x00 0x00 s.ccs).flags
  | .flag func, s => (machineAlu func 0x00 0x00 s.ccs).flags
  | .index up, s => (machineAlu (if (if up then s.x + 1 else s.x - 1) = 0x0000 then .sez else .clz) 0x00 0x00 s.ccs).flags
  | .rmwAcc op acc, s => (op.compute machineAlu (s.acc acc) s.ccs).flags
  | .rmwMem op o, s => (op.compute machineAlu (s.mem.read (o.ea s)) s.ccs).flags
  | .read op acc o, s => (machineAlu op.func (s.acc acc) (o.value s) s.ccs).flags
  | .store acc _, s => (machineAlu .ld 0x00 (s.acc acc) s.ccs).flags

@[simp] theorem Action.effect_ccs (k : Action) (s : State) : (k.effect s).ccs = k.nextCcs s := by
  cases k with
  | read op acc o => simp only [effect, nextCcs, readEffect, State.endInstr_ccs, readFire_ccs, latch_ccs, latch_acc]
  | rmwAcc op acc => simp only [effect, nextCcs, rmwAccEffect, State.endInstr_ccs, rmwAccFire_ccs]
  | rmwMem op o => simp only [effect, nextCcs, rmwMemEffect, State.endInstr_ccs, State.setDout_ccs, State.setTmp16_ccs, State.setTmp8_ccs, State.setCcs_ccs]
  | _ => rfl

/-- Accumulator `acc` after. -/
def Action.nextAcc (acc : Acc) : Action → State → Byte
  | .tpa, s => if acc = .A then (machineAlu .tpa 0x00 0x00 s.ccs).result else s.acc acc
  | .rmwAcc op q, s => if q = acc ∧ op.stores = true then (op.compute machineAlu (s.acc acc) s.ccs).result else s.acc acc
  | .read op q o, s => if q = acc ∧ op.stores = true then (machineAlu op.func (s.acc acc) (o.value s) s.ccs).result else s.acc acc
  | _, s => s.acc acc

@[simp] theorem Action.effect_acc (k : Action) (acc : Acc) (s : State) : (k.effect s).acc acc = k.nextAcc acc s := by
  cases k with
  | read op q o => simp only [effect, nextAcc, readEffect, State.acc_endInstr, readFire_acc, latch_ccs, latch_acc]
  | rmwAcc op q => simp only [effect, nextAcc, rmwAccEffect, State.acc_endInstr, rmwAccFire_acc]
  | rmwMem op o =>
    cases acc <;> simp only [effect, nextAcc, rmwMemEffect, State.acc, State.endInstr_a, State.setDout_a, State.setTmp16_a, State.setTmp8_a, State.setCcs_a, State.setMem_a, State.endInstr_b, State.setDout_b, State.setTmp16_b, State.setTmp8_b, State.setCcs_b, State.setMem_b]
  | _ => cases acc <;> rfl

/-- The 8-bit scratch register after (10_state R26). -/
def Action.nextTmp8 : Action → State → Byte
  | .branch _ _ rr, _ => rr
  | .rmwMem op o, s => (op.compute machineAlu (s.mem.read (o.ea s)) s.ccs).result
  | .read _ _ o, s => (o.latch s).tmp8
  | _, s => s.tmp8

/-- The 16-bit scratch register after (10_state R27). -/
def Action.nextTmp16 : Action → State → Word
  | .branch _ _ rr, s => branchTarget s.pc rr
  | .rmwMem _ o, s => o.ea s
  | .jump o, s => o.ea s
  | .read _ _ o, s => (o.latch s).tmp16
  | .store _ o, s => o.ea s
  | _, s => s.tmp16

/-- The data-out latch after (10_state R37). -/
def Action.nextDout : Action → State → Byte
  | .rmwMem op o, s => (op.compute machineAlu (s.mem.read (o.ea s)) s.ccs).result
  | .store acc _, s => s.acc acc
  | _, s => s.dout

@[simp] theorem Action.effect_tmp8 (k : Action) (s : State) : (k.effect s).tmp8 = k.nextTmp8 s := by
  cases k with
  | read op acc o => simp only [effect, nextTmp8, readEffect, State.endInstr_tmp8, readFire_tmp8]
  | rmwAcc op acc => simp only [effect, nextTmp8, rmwAccEffect, State.endInstr_tmp8, rmwAccFire_tmp8]
  | rmwMem op o => simp only [effect, nextTmp8, rmwMemEffect, State.endInstr_tmp8, State.setDout_tmp8, State.setTmp16_tmp8, State.setTmp8_tmp8]
  | _ => rfl

@[simp] theorem Action.effect_tmp16 (k : Action) (s : State) : (k.effect s).tmp16 = k.nextTmp16 s := by
  cases k with
  | read op acc o => simp only [effect, nextTmp16, readEffect, State.endInstr_tmp16, readFire_tmp16]
  | rmwAcc op acc => simp only [effect, nextTmp16, rmwAccEffect, State.endInstr_tmp16, rmwAccFire_tmp16]
  | rmwMem op o => simp only [effect, nextTmp16, rmwMemEffect, State.endInstr_tmp16, State.setDout_tmp16, State.setTmp16_tmp16]
  | _ => rfl

@[simp] theorem Action.effect_dout (k : Action) (s : State) : (k.effect s).dout = k.nextDout s := by
  cases k with
  | read op acc o => simp only [effect, nextDout, readEffect, State.endInstr_dout, readFire_dout, latch_dout]
  | rmwAcc op acc => simp only [effect, nextDout, rmwAccEffect, State.endInstr_dout, rmwAccFire_dout]
  | rmwMem op o => simp only [effect, nextDout, rmwMemEffect, State.endInstr_dout, State.setDout_dout]
  | _ => rfl

/-! ## Where the two readings of an opcode byte meet -/

theorem action_decodeTriple_low (b1 b2 : Byte) (n : Nat) (lo : 0 ≤ n) (hi : n < 64) :
    (decodeTriple (BitVec.ofNat 8 n) b1 b2).action = (dispatch (BitVec.ofNat 8 n)).action (BitVec.ofNat 8 n) b1 b2 := by
  interval_cases n <;> rfl

theorem action_decodeTriple_rmw (b1 b2 : Byte) (n : Nat) (lo : 64 ≤ n) (hi : n < 128) :
    (decodeTriple (BitVec.ofNat 8 n) b1 b2).action = (dispatch (BitVec.ofNat 8 n)).action (BitVec.ofNat 8 n) b1 b2 := by
  interval_cases n <;> rfl

theorem action_decodeTriple_accA (b1 b2 : Byte) (n : Nat) (lo : 128 ≤ n) (hi : n < 192) :
    (decodeTriple (BitVec.ofNat 8 n) b1 b2).action = (dispatch (BitVec.ofNat 8 n)).action (BitVec.ofNat 8 n) b1 b2 := by
  interval_cases n <;> rfl

theorem action_decodeTriple_accB (b1 b2 : Byte) (n : Nat) (lo : 192 ≤ n) (hi : n < 256) :
    (decodeTriple (BitVec.ofNat 8 n) b1 b2).action = (dispatch (BitVec.ofNat 8 n)).action (BitVec.ofNat 8 n) b1 b2 := by
  interval_cases n <;> rfl

/-- Exact-match decoding and mask-and-match dispatch select the same effect (30_encoding R98, R102). -/
theorem action_decodeTriple (b0 b1 b2 : Byte) :
    (decodeTriple b0 b1 b2).action = (dispatch b0).action b0 b1 b2 := by
  have lt := b0.isLt
  have h : b0 = BitVec.ofNat 8 b0.toNat := by simp
  rw [h]
  by_cases h1 : b0.toNat < 64
  · exact action_decodeTriple_low b1 b2 _ (Nat.zero_le _) h1
  by_cases h2 : b0.toNat < 128
  · exact action_decodeTriple_rmw b1 b2 _ (by omega) h2
  by_cases h3 : b0.toNat < 192
  · exact action_decodeTriple_accA b1 b2 _ (by omega) h3
  · exact action_decodeTriple_accB b1 b2 _ (by omega) lt

end Sys2Proof.Machine
end

