-- ==== Sys2Proof/Laws/Clock.lean ====
section
/-! SUPPORT. What one clock period and one step can do, said once: the four cases of a period in their
priority (00_scope R12) and the three cases of a step. -/

namespace Sys2Proof.Machine

@[simp] theorem clocks_zero (s : State) : clocks 0 s = s := rfl

theorem clocks_succ (n : Nat) (s : State) : clocks (n + 1) s = clocks n (clock false s) := rfl

theorem clocks_add (m n : Nat) (s : State) : clocks (m + n) s = clocks n (clocks m s) := by
  induction m generalizing s with
  | zero => rw [Nat.zero_add]; rfl
  | succ m ih => rw [Nat.succ_add, clocks_succ, clocks_succ, ih]

/-- An edge with the reset input high. -/
@[simp] theorem clock_reset (s : State) : clock true s = s.resetEdge := rfl

/-- A period of the reset sequencer. -/
theorem clock_sequencer {s : State} (h : s.rst ≠ 3) :
    clock false s = (sequencerPeriod s).setMem s.committedMem := by
  simp only [clock, clockWith, corePeriod, if_pos h, Bool.false_eq_true, if_false]

/-- A fetch period. -/
theorem clock_fetch {s : State} (h : s.rst = 3) (hc : s.cycle = 0) :
    clock false s = (fetchPeriod s).setMem s.committedMem := by
  simp only [clock, clockWith, corePeriod, if_neg (not_not_intro h), if_pos hc, Bool.false_eq_true, if_false]

/-- A handler period. -/
theorem clock_handler {s : State} (h : s.rst = 3) (hc : s.cycle ≠ 0) :
    clock false s = (handlerPeriod machineAlu s).setMem s.committedMem := by
  simp only [clock, clockWith, corePeriod, if_neg (not_not_intro h), if_neg hc, Bool.false_eq_true, if_false]

/-! ## What no handler period touches -/

@[simp] theorem handlerPeriod_rst (alu : Alu) (s : State) : (handlerPeriod alu s).rst = s.rst := by
  unfold handlerPeriod
  cases dispatch s.instr <;>
    simp only [oneCyclePeriod, indexPeriod, branchPeriod, rmwPeriod, jumpPeriod, readPeriod, storePeriod] <;>
    (try split) <;> first | rfl | simp

@[simp] theorem handlerPeriod_sp (alu : Alu) (s : State) : (handlerPeriod alu s).sp = s.sp := by
  unfold handlerPeriod
  cases dispatch s.instr <;>
    simp only [oneCyclePeriod, indexPeriod, branchPeriod, rmwPeriod, jumpPeriod, readPeriod, storePeriod] <;>
    (try split) <;> first | rfl | simp

@[simp] theorem handlerPeriod_instr (alu : Alu) (s : State) : (handlerPeriod alu s).instr = s.instr := by
  unfold handlerPeriod
  cases dispatch s.instr <;>
    simp only [oneCyclePeriod, indexPeriod, branchPeriod, rmwPeriod, jumpPeriod, readPeriod, storePeriod] <;>
    (try split) <;> first | rfl | simp

@[simp] theorem handlerPeriod_mem (alu : Alu) (s : State) : (handlerPeriod alu s).mem = s.mem := by
  unfold handlerPeriod
  cases dispatch s.instr <;>
    simp only [oneCyclePeriod, indexPeriod, branchPeriod, rmwPeriod, jumpPeriod, readPeriod, storePeriod] <;>
    (try split) <;> first | rfl | simp

@[simp] theorem handlerPeriod_rstIn (alu : Alu) (s : State) : (handlerPeriod alu s).rstIn = s.rstIn := by
  unfold handlerPeriod
  cases dispatch s.instr <;>
    simp only [oneCyclePeriod, indexPeriod, branchPeriod, rmwPeriod, jumpPeriod, readPeriod, storePeriod] <;>
    (try split) <;> first | rfl | simp

@[simp] theorem handlerPeriod_draws (alu : Alu) (s : State) : (handlerPeriod alu s).draws = s.draws := by
  unfold handlerPeriod
  cases dispatch s.instr <;>
    simp only [oneCyclePeriod, indexPeriod, branchPeriod, rmwPeriod, jumpPeriod, readPeriod, storePeriod] <;>
    (try split) <;> first | rfl | simp

/-- `SP` in a clock period with the reset input low (10_state R23). -/
@[simp] theorem clock_sp (s : State) : (clock false s).sp = s.sp := by
  by_cases hr : s.rst = 3
  · by_cases hc : s.cycle = 0
    · rw [clock_fetch hr hc]; rfl
    · rw [clock_handler hr hc]; simp
  · rw [clock_sequencer hr]
    unfold sequencerPeriod
    split <;> rfl

/-- Normal operation lasts until a reset edge (70 R364). -/
theorem clock_rst {s : State} (h : s.rst = 3) : (clock false s).rst = 3 := by
  by_cases hc : s.cycle = 0
  · rw [clock_fetch h hc]; exact h
  · rw [clock_handler h hc]; simpa using h

/-- Every clock period leaves in memory what the write on the bus left (20_memory R63). -/
@[simp] theorem clock_mem (level : Bool) (s : State) : (clock level s).mem = s.committedMem := by
  cases level <;> rfl

/-- The boundary invariant, spelt out (10_state R45). -/
theorem State.atBoundary_iff (s : State) :
    s.atBoundary = true ↔ s.rst = 3 ∧ s.cycle = 0 ∧ s.addr = s.pc ∧ s.rw = true ∧ s.vma = true := by
  simp [State.atBoundary, and_assoc]

/-- A step that takes a level of the reset input. -/
theorem step_level {s : State} {level : Bool} {rest : List Bool} (h : s.rstIn = level :: rest) :
    step s = .next (clock level { s with rstIn := rest }) := by
  simp [step, h]

/-- A step that runs an instruction. -/
theorem step_boundary {s : State} (h : s.rstIn = []) (hb : s.atBoundary = true) :
    step s = exec s.nextInstr (s.setInstr (s.mem.read s.pc)) := by
  simp [step, h, hb]

/-- A step that is one clock period. -/
theorem step_period {s : State} (h : s.rstIn = []) (hb : s.atBoundary = false) :
    step s = .next (clock false s) := by
  simp [step, h, hb]

/-- Everything a step can do. -/
theorem step_cases (s : State) :
    (∃ level rest, s.rstIn = level :: rest ∧ step s = .next (clock level { s with rstIn := rest })) ∨
    (s.rstIn = [] ∧ s.atBoundary = true ∧ step s = exec s.nextInstr (s.setInstr (s.mem.read s.pc))) ∨
    (s.rstIn = [] ∧ s.atBoundary = false ∧ step s = .next (clock false s)) := by
  cases h : s.rstIn with
  | cons level rest => exact .inl ⟨level, rest, rfl, step_level h⟩
  | nil =>
    cases hb : s.atBoundary with
    | true => exact .inr (.inl ⟨rfl, rfl, step_boundary h hb⟩)
    | false => exact .inr (.inr ⟨rfl, rfl, step_period h hb⟩)

/-- `withFetchWord` is at an instruction boundary with the reset input low. -/
theorem State.atBoundary_withFetchWord (s : State) (nbits w : Nat) :
    (s.withFetchWord nbits w).atBoundary = true ∧ (s.withFetchWord nbits w).rstIn = [] := by
  simp [State.atBoundary, State.withFetchWord]

end Sys2Proof.Machine
end

