-- ==== Sys2Proof/Laws/Flags.lean ====
section
/-! SUPPORT. The bits of a flag vector, and what the reference ALU answers in the arithmetic of numbers. -/

namespace Sys2Proof.Machine

/-! ## The bits of `mkFlags` -/

@[simp] theorem mkFlags_bit0 (h i n z v c : Bool) : (mkFlags h i n z v c)[0] = c := by
  revert h i n z v c; decide
@[simp] theorem mkFlags_bit1 (h i n z v c : Bool) : (mkFlags h i n z v c)[1] = v := by
  revert h i n z v c; decide
@[simp] theorem mkFlags_bit2 (h i n z v c : Bool) : (mkFlags h i n z v c)[2] = z := by
  revert h i n z v c; decide
@[simp] theorem mkFlags_bit3 (h i n z v c : Bool) : (mkFlags h i n z v c)[3] = n := by
  revert h i n z v c; decide
@[simp] theorem mkFlags_bit4 (h i n z v c : Bool) : (mkFlags h i n z v c)[4] = i := by
  revert h i n z v c; decide
@[simp] theorem mkFlags_bit5 (h i n z v c : Bool) : (mkFlags h i n z v c)[5] = h := by
  revert h i n z v c; decide
@[simp] theorem mkFlags_bit6 (h i n z v c : Bool) : (mkFlags h i n z v c)[6] = true := by
  revert h i n z v c; decide
@[simp] theorem mkFlags_bit7 (h i n z v c : Bool) : (mkFlags h i n z v c)[7] = true := by
  revert h i n z v c; decide

@[simp] theorem flagC_mkFlags (h i n z v c : Bool) : flagC (mkFlags h i n z v c) = c := by simp [flagC]
@[simp] theorem flagV_mkFlags (h i n z v c : Bool) : flagV (mkFlags h i n z v c) = v := by simp [flagV]
@[simp] theorem flagZ_mkFlags (h i n z v c : Bool) : flagZ (mkFlags h i n z v c) = z := by simp [flagZ]
@[simp] theorem flagN_mkFlags (h i n z v c : Bool) : flagN (mkFlags h i n z v c) = n := by simp [flagN]
@[simp] theorem flagI_mkFlags (h i n z v c : Bool) : flagI (mkFlags h i n z v c) = i := by simp [flagI]
@[simp] theorem flagH_mkFlags (h i n z v c : Bool) : flagH (mkFlags h i n z v c) = h := by simp [flagH]

/-- The flag vector as a number. -/
theorem toNat_mkFlags (h i n z v c : Bool) :
    (mkFlags h i n z v c).toNat =
      192 + 32 * h.toNat + 16 * i.toNat + 8 * n.toNat + 4 * z.toNat + 2 * v.toNat + c.toNat := by
  revert h i n z v c; decide

/-- The sign bit of a byte as a comparison. -/
theorem msb_eq_decide (b : Byte) : b.msb = decide (128 ≤ b.toNat) := by
  rw [BitVec.msb_eq_decide]

/-- The carry flag is at most one. -/
theorem toNat_flagC_le (ccs : Byte) : (flagC ccs).toNat ≤ 1 := by cases flagC ccs <;> decide

/-! ## Results as numbers -/

theorem toNat_aluAdd (x y ccs : Byte) (c : Bool) :
    (aluAdd x y ccs c).result.toNat = (x.toNat + y.toNat + c.toNat) % 256 := by simp [aluAdd]

theorem toNat_aluSub (x y ccs : Byte) (c : Bool) :
    (aluSub x y ccs c).result.toNat = (x.toNat + 512 - y.toNat - c.toNat) % 256 := by
  have hx := x.isLt
  have hy := y.isLt
  have hc : c.toNat ≤ 1 := by cases c <;> decide
  simp only [aluSub, BitVec.toNat_ofInt]
  omega

end Sys2Proof.Machine
end

