-- ==== Sys2Proof/Laws/PerInstr.lean ====
section
/-! SUPPORT. Statements made per instruction, one lemma a constructor. Family `EncodedLength`: an instruction
encodes to as many bytes as its length says,
and takes at least as many periods, one a byte fetched (30_encoding R101, 40 R140). -/

namespace Sys2Proof.Laws.EncodedLength

/-- The number of bytes, and that the periods are enough to fetch them. -/
def Statement (i : Instr) : Prop :=
  (encode i).length = i.length ∧ i.length ≤ i.periods

theorem nop : Statement .nop := ⟨rfl, Nat.le_of_ble_eq_true rfl⟩
theorem tap : Statement .tap := ⟨rfl, Nat.le_of_ble_eq_true rfl⟩
theorem tpa : Statement .tpa := ⟨rfl, Nat.le_of_ble_eq_true rfl⟩
theorem inx : Statement .inx := ⟨rfl, Nat.le_of_ble_eq_true rfl⟩
theorem dex : Statement .dex := ⟨rfl, Nat.le_of_ble_eq_true rfl⟩
theorem clv : Statement .clv := ⟨rfl, Nat.le_of_ble_eq_true rfl⟩
theorem sev : Statement .sev := ⟨rfl, Nat.le_of_ble_eq_true rfl⟩
theorem clc : Statement .clc := ⟨rfl, Nat.le_of_ble_eq_true rfl⟩
theorem sec : Statement .sec := ⟨rfl, Nat.le_of_ble_eq_true rfl⟩
theorem cli : Statement .cli := ⟨rfl, Nat.le_of_ble_eq_true rfl⟩
theorem sei : Statement .sei := ⟨rfl, Nat.le_of_ble_eq_true rfl⟩
theorem bra (rr : Byte) : Statement (.bra rr) := ⟨rfl, Nat.le_of_ble_eq_true rfl⟩
theorem brn (rr : Byte) : Statement (.brn rr) := ⟨rfl, Nat.le_of_ble_eq_true rfl⟩
theorem bhi (rr : Byte) : Statement (.bhi rr) := ⟨rfl, Nat.le_of_ble_eq_true rfl⟩
theorem bls (rr : Byte) : Statement (.bls rr) := ⟨rfl, Nat.le_of_ble_eq_true rfl⟩
theorem bcc (rr : Byte) : Statement (.bcc rr) := ⟨rfl, Nat.le_of_ble_eq_true rfl⟩
theorem bcs (rr : Byte) : Statement (.bcs rr) := ⟨rfl, Nat.le_of_ble_eq_true rfl⟩
theorem bne (rr : Byte) : Statement (.bne rr) := ⟨rfl, Nat.le_of_ble_eq_true rfl⟩
theorem beq (rr : Byte) : Statement (.beq rr) := ⟨rfl, Nat.le_of_ble_eq_true rfl⟩
theorem bvc (rr : Byte) : Statement (.bvc rr) := ⟨rfl, Nat.le_of_ble_eq_true rfl⟩
theorem bvs (rr : Byte) : Statement (.bvs rr) := ⟨rfl, Nat.le_of_ble_eq_true rfl⟩
theorem bpl (rr : Byte) : Statement (.bpl rr) := ⟨rfl, Nat.le_of_ble_eq_true rfl⟩
theorem bmi (rr : Byte) : Statement (.bmi rr) := ⟨rfl, Nat.le_of_ble_eq_true rfl⟩
theorem bge (rr : Byte) : Statement (.bge rr) := ⟨rfl, Nat.le_of_ble_eq_true rfl⟩
theorem blt (rr : Byte) : Statement (.blt rr) := ⟨rfl, Nat.le_of_ble_eq_true rfl⟩
theorem bgt (rr : Byte) : Statement (.bgt rr) := ⟨rfl, Nat.le_of_ble_eq_true rfl⟩
theorem ble (rr : Byte) : Statement (.ble rr) := ⟨rfl, Nat.le_of_ble_eq_true rfl⟩
theorem nega : Statement .nega := ⟨rfl, Nat.le_of_ble_eq_true rfl⟩
theorem coma : Statement .coma := ⟨rfl, Nat.le_of_ble_eq_true rfl⟩
theorem lsra : Statement .lsra := ⟨rfl, Nat.le_of_ble_eq_true rfl⟩
theorem rora : Statement .rora := ⟨rfl, Nat.le_of_ble_eq_true rfl⟩
theorem asra : Statement .asra := ⟨rfl, Nat.le_of_ble_eq_true rfl⟩
theorem asla : Statement .asla := ⟨rfl, Nat.le_of_ble_eq_true rfl⟩
theorem rola : Statement .rola := ⟨rfl, Nat.le_of_ble_eq_true rfl⟩
theorem deca : Statement .deca := ⟨rfl, Nat.le_of_ble_eq_true rfl⟩
theorem inca : Statement .inca := ⟨rfl, Nat.le_of_ble_eq_true rfl⟩
theorem tsta : Statement .tsta := ⟨rfl, Nat.le_of_ble_eq_true rfl⟩
theorem clra : Statement .clra := ⟨rfl, Nat.le_of_ble_eq_true rfl⟩
theorem negb : Statement .negb := ⟨rfl, Nat.le_of_ble_eq_true rfl⟩
theorem comb : Statement .comb := ⟨rfl, Nat.le_of_ble_eq_true rfl⟩
theorem lsrb : Statement .lsrb := ⟨rfl, Nat.le_of_ble_eq_true rfl⟩
theorem rorb : Statement .rorb := ⟨rfl, Nat.le_of_ble_eq_true rfl⟩
theorem asrb : Statement .asrb := ⟨rfl, Nat.le_of_ble_eq_true rfl⟩
theorem aslb : Statement .aslb := ⟨rfl, Nat.le_of_ble_eq_true rfl⟩
theorem rolb : Statement .rolb := ⟨rfl, Nat.le_of_ble_eq_true rfl⟩
theorem decb : Statement .decb := ⟨rfl, Nat.le_of_ble_eq_true rfl⟩
theorem incb : Statement .incb := ⟨rfl, Nat.le_of_ble_eq_true rfl⟩
theorem tstb : Statement .tstb := ⟨rfl, Nat.le_of_ble_eq_true rfl⟩
theorem clrb : Statement .clrb := ⟨rfl, Nat.le_of_ble_eq_true rfl⟩
theorem negIdx (ff : Byte) : Statement (.negIdx ff) := ⟨rfl, Nat.le_of_ble_eq_true rfl⟩
theorem comIdx (ff : Byte) : Statement (.comIdx ff) := ⟨rfl, Nat.le_of_ble_eq_true rfl⟩
theorem lsrIdx (ff : Byte) : Statement (.lsrIdx ff) := ⟨rfl, Nat.le_of_ble_eq_true rfl⟩
theorem rorIdx (ff : Byte) : Statement (.rorIdx ff) := ⟨rfl, Nat.le_of_ble_eq_true rfl⟩
theorem asrIdx (ff : Byte) : Statement (.asrIdx ff) := ⟨rfl, Nat.le_of_ble_eq_true rfl⟩
theorem aslIdx (ff : Byte) : Statement (.aslIdx ff) := ⟨rfl, Nat.le_of_ble_eq_true rfl⟩
theorem rolIdx (ff : Byte) : Statement (.rolIdx ff) := ⟨rfl, Nat.le_of_ble_eq_true rfl⟩
theorem decIdx (ff : Byte) : Statement (.decIdx ff) := ⟨rfl, Nat.le_of_ble_eq_true rfl⟩
theorem incIdx (ff : Byte) : Statement (.incIdx ff) := ⟨rfl, Nat.le_of_ble_eq_true rfl⟩
theorem tstIdx (ff : Byte) : Statement (.tstIdx ff) := ⟨rfl, Nat.le_of_ble_eq_true rfl⟩
theorem jmpIdx (ff : Byte) : Statement (.jmpIdx ff) := ⟨rfl, Nat.le_of_ble_eq_true rfl⟩
theorem clrIdx (ff : Byte) : Statement (.clrIdx ff) := ⟨rfl, Nat.le_of_ble_eq_true rfl⟩
theorem negExt (hhll : Word) : Statement (.negExt hhll) := ⟨rfl, Nat.le_of_ble_eq_true rfl⟩
theorem comExt (hhll : Word) : Statement (.comExt hhll) := ⟨rfl, Nat.le_of_ble_eq_true rfl⟩
theorem lsrExt (hhll : Word) : Statement (.lsrExt hhll) := ⟨rfl, Nat.le_of_ble_eq_true rfl⟩
theorem rorExt (hhll : Word) : Statement (.rorExt hhll) := ⟨rfl, Nat.le_of_ble_eq_true rfl⟩
theorem asrExt (hhll : Word) : Statement (.asrExt hhll) := ⟨rfl, Nat.le_of_ble_eq_true rfl⟩
theorem aslExt (hhll : Word) : Statement (.aslExt hhll) := ⟨rfl, Nat.le_of_ble_eq_true rfl⟩
theorem rolExt (hhll : Word) : Statement (.rolExt hhll) := ⟨rfl, Nat.le_of_ble_eq_true rfl⟩
theorem decExt (hhll : Word) : Statement (.decExt hhll) := ⟨rfl, Nat.le_of_ble_eq_true rfl⟩
theorem incExt (hhll : Word) : Statement (.incExt hhll) := ⟨rfl, Nat.le_of_ble_eq_true rfl⟩
theorem tstExt (hhll : Word) : Statement (.tstExt hhll) := ⟨rfl, Nat.le_of_ble_eq_true rfl⟩
theorem jmpExt (hhll : Word) : Statement (.jmpExt hhll) := ⟨rfl, Nat.le_of_ble_eq_true rfl⟩
theorem clrExt (hhll : Word) : Statement (.clrExt hhll) := ⟨rfl, Nat.le_of_ble_eq_true rfl⟩
theorem subaImm (ii : Byte) : Statement (.subaImm ii) := ⟨rfl, Nat.le_of_ble_eq_true rfl⟩
theorem cmpaImm (ii : Byte) : Statement (.cmpaImm ii) := ⟨rfl, Nat.le_of_ble_eq_true rfl⟩
theorem sbcaImm (ii : Byte) : Statement (.sbcaImm ii) := ⟨rfl, Nat.le_of_ble_eq_true rfl⟩
theorem andaImm (ii : Byte) : Statement (.andaImm ii) := ⟨rfl, Nat.le_of_ble_eq_true rfl⟩
theorem bitaImm (ii : Byte) : Statement (.bitaImm ii) := ⟨rfl, Nat.le_of_ble_eq_true rfl⟩
theorem ldaaImm (ii : Byte) : Statement (.ldaaImm ii) := ⟨rfl, Nat.le_of_ble_eq_true rfl⟩
theorem eoraImm (ii : Byte) : Statement (.eoraImm ii) := ⟨rfl, Nat.le_of_ble_eq_true rfl⟩
theorem adcaImm (ii : Byte) : Statement (.adcaImm ii) := ⟨rfl, Nat.le_of_ble_eq_true rfl⟩
theorem oraaImm (ii : Byte) : Statement (.oraaImm ii) := ⟨rfl, Nat.le_of_ble_eq_true rfl⟩
theorem addaImm (ii : Byte) : Statement (.addaImm ii) := ⟨rfl, Nat.le_of_ble_eq_true rfl⟩
theorem subaDir (dd : Byte) : Statement (.subaDir dd) := ⟨rfl, Nat.le_of_ble_eq_true rfl⟩
theorem cmpaDir (dd : Byte) : Statement (.cmpaDir dd) := ⟨rfl, Nat.le_of_ble_eq_true rfl⟩
theorem sbcaDir (dd : Byte) : Statement (.sbcaDir dd) := ⟨rfl, Nat.le_of_ble_eq_true rfl⟩
theorem andaDir (dd : Byte) : Statement (.andaDir dd) := ⟨rfl, Nat.le_of_ble_eq_true rfl⟩
theorem bitaDir (dd : Byte) : Statement (.bitaDir dd) := ⟨rfl, Nat.le_of_ble_eq_true rfl⟩
theorem ldaaDir (dd : Byte) : Statement (.ldaaDir dd) := ⟨rfl, Nat.le_of_ble_eq_true rfl⟩
theorem staaDir (dd : Byte) : Statement (.staaDir dd) := ⟨rfl, Nat.le_of_ble_eq_true rfl⟩
theorem eoraDir (dd : Byte) : Statement (.eoraDir dd) := ⟨rfl, Nat.le_of_ble_eq_true rfl⟩
theorem adcaDir (dd : Byte) : Statement (.adcaDir dd) := ⟨rfl, Nat.le_of_ble_eq_true rfl⟩
theorem oraaDir (dd : Byte) : Statement (.oraaDir dd) := ⟨rfl, Nat.le_of_ble_eq_true rfl⟩
theorem addaDir (dd : Byte) : Statement (.addaDir dd) := ⟨rfl, Nat.le_of_ble_eq_true rfl⟩
theorem subaIdx (ff : Byte) : Statement (.subaIdx ff) := ⟨rfl, Nat.le_of_ble_eq_true rfl⟩
theorem cmpaIdx (ff : Byte) : Statement (.cmpaIdx ff) := ⟨rfl, Nat.le_of_ble_eq_true rfl⟩
theorem sbcaIdx (ff : Byte) : Statement (.sbcaIdx ff) := ⟨rfl, Nat.le_of_ble_eq_true rfl⟩
theorem andaIdx (ff : Byte) : Statement (.andaIdx ff) := ⟨rfl, Nat.le_of_ble_eq_true rfl⟩
theorem bitaIdx (ff : Byte) : Statement (.bitaIdx ff) := ⟨rfl, Nat.le_of_ble_eq_true rfl⟩
theorem ldaaIdx (ff : Byte) : Statement (.ldaaIdx ff) := ⟨rfl, Nat.le_of_ble_eq_true rfl⟩
theorem staaIdx (ff : Byte) : Statement (.staaIdx ff) := ⟨rfl, Nat.le_of_ble_eq_true rfl⟩
theorem eoraIdx (ff : Byte) : Statement (.eoraIdx ff) := ⟨rfl, Nat.le_of_ble_eq_true rfl⟩
theorem adcaIdx (ff : Byte) : Statement (.adcaIdx ff) := ⟨rfl, Nat.le_of_ble_eq_true rfl⟩
theorem oraaIdx (ff : Byte) : Statement (.oraaIdx ff) := ⟨rfl, Nat.le_of_ble_eq_true rfl⟩
theorem addaIdx (ff : Byte) : Statement (.addaIdx ff) := ⟨rfl, Nat.le_of_ble_eq_true rfl⟩
theorem subaExt (hhll : Word) : Statement (.subaExt hhll) := ⟨rfl, Nat.le_of_ble_eq_true rfl⟩
theorem cmpaExt (hhll : Word) : Statement (.cmpaExt hhll) := ⟨rfl, Nat.le_of_ble_eq_true rfl⟩
theorem sbcaExt (hhll : Word) : Statement (.sbcaExt hhll) := ⟨rfl, Nat.le_of_ble_eq_true rfl⟩
theorem andaExt (hhll : Word) : Statement (.andaExt hhll) := ⟨rfl, Nat.le_of_ble_eq_true rfl⟩
theorem bitaExt (hhll : Word) : Statement (.bitaExt hhll) := ⟨rfl, Nat.le_of_ble_eq_true rfl⟩
theorem ldaaExt (hhll : Word) : Statement (.ldaaExt hhll) := ⟨rfl, Nat.le_of_ble_eq_true rfl⟩
theorem staaExt (hhll : Word) : Statement (.staaExt hhll) := ⟨rfl, Nat.le_of_ble_eq_true rfl⟩
theorem eoraExt (hhll : Word) : Statement (.eoraExt hhll) := ⟨rfl, Nat.le_of_ble_eq_true rfl⟩
theorem adcaExt (hhll : Word) : Statement (.adcaExt hhll) := ⟨rfl, Nat.le_of_ble_eq_true rfl⟩
theorem oraaExt (hhll : Word) : Statement (.oraaExt hhll) := ⟨rfl, Nat.le_of_ble_eq_true rfl⟩
theorem addaExt (hhll : Word) : Statement (.addaExt hhll) := ⟨rfl, Nat.le_of_ble_eq_true rfl⟩
theorem subbImm (ii : Byte) : Statement (.subbImm ii) := ⟨rfl, Nat.le_of_ble_eq_true rfl⟩
theorem cmpbImm (ii : Byte) : Statement (.cmpbImm ii) := ⟨rfl, Nat.le_of_ble_eq_true rfl⟩
theorem sbcbImm (ii : Byte) : Statement (.sbcbImm ii) := ⟨rfl, Nat.le_of_ble_eq_true rfl⟩
theorem andbImm (ii : Byte) : Statement (.andbImm ii) := ⟨rfl, Nat.le_of_ble_eq_true rfl⟩
theorem bitbImm (ii : Byte) : Statement (.bitbImm ii) := ⟨rfl, Nat.le_of_ble_eq_true rfl⟩
theorem ldabImm (ii : Byte) : Statement (.ldabImm ii) := ⟨rfl, Nat.le_of_ble_eq_true rfl⟩
theorem eorbImm (ii : Byte) : Statement (.eorbImm ii) := ⟨rfl, Nat.le_of_ble_eq_true rfl⟩
theorem adcbImm (ii : Byte) : Statement (.adcbImm ii) := ⟨rfl, Nat.le_of_ble_eq_true rfl⟩
theorem orabImm (ii : Byte) : Statement (.orabImm ii) := ⟨rfl, Nat.le_of_ble_eq_true rfl⟩
theorem addbImm (ii : Byte) : Statement (.addbImm ii) := ⟨rfl, Nat.le_of_ble_eq_true rfl⟩
theorem subbDir (dd : Byte) : Statement (.subbDir dd) := ⟨rfl, Nat.le_of_ble_eq_true rfl⟩
theorem cmpbDir (dd : Byte) : Statement (.cmpbDir dd) := ⟨rfl, Nat.le_of_ble_eq_true rfl⟩
theorem sbcbDir (dd : Byte) : Statement (.sbcbDir dd) := ⟨rfl, Nat.le_of_ble_eq_true rfl⟩
theorem andbDir (dd : Byte) : Statement (.andbDir dd) := ⟨rfl, Nat.le_of_ble_eq_true rfl⟩
theorem bitbDir (dd : Byte) : Statement (.bitbDir dd) := ⟨rfl, Nat.le_of_ble_eq_true rfl⟩
theorem ldabDir (dd : Byte) : Statement (.ldabDir dd) := ⟨rfl, Nat.le_of_ble_eq_true rfl⟩
theorem stabDir (dd : Byte) : Statement (.stabDir dd) := ⟨rfl, Nat.le_of_ble_eq_true rfl⟩
theorem eorbDir (dd : Byte) : Statement (.eorbDir dd) := ⟨rfl, Nat.le_of_ble_eq_true rfl⟩
theorem adcbDir (dd : Byte) : Statement (.adcbDir dd) := ⟨rfl, Nat.le_of_ble_eq_true rfl⟩
theorem orabDir (dd : Byte) : Statement (.orabDir dd) := ⟨rfl, Nat.le_of_ble_eq_true rfl⟩
theorem addbDir (dd : Byte) : Statement (.addbDir dd) := ⟨rfl, Nat.le_of_ble_eq_true rfl⟩
theorem subbIdx (ff : Byte) : Statement (.subbIdx ff) := ⟨rfl, Nat.le_of_ble_eq_true rfl⟩
theorem cmpbIdx (ff : Byte) : Statement (.cmpbIdx ff) := ⟨rfl, Nat.le_of_ble_eq_true rfl⟩
theorem sbcbIdx (ff : Byte) : Statement (.sbcbIdx ff) := ⟨rfl, Nat.le_of_ble_eq_true rfl⟩
theorem andbIdx (ff : Byte) : Statement (.andbIdx ff) := ⟨rfl, Nat.le_of_ble_eq_true rfl⟩
theorem bitbIdx (ff : Byte) : Statement (.bitbIdx ff) := ⟨rfl, Nat.le_of_ble_eq_true rfl⟩
theorem ldabIdx (ff : Byte) : Statement (.ldabIdx ff) := ⟨rfl, Nat.le_of_ble_eq_true rfl⟩
theorem stabIdx (ff : Byte) : Statement (.stabIdx ff) := ⟨rfl, Nat.le_of_ble_eq_true rfl⟩
theorem eorbIdx (ff : Byte) : Statement (.eorbIdx ff) := ⟨rfl, Nat.le_of_ble_eq_true rfl⟩
theorem adcbIdx (ff : Byte) : Statement (.adcbIdx ff) := ⟨rfl, Nat.le_of_ble_eq_true rfl⟩
theorem orabIdx (ff : Byte) : Statement (.orabIdx ff) := ⟨rfl, Nat.le_of_ble_eq_true rfl⟩
theorem addbIdx (ff : Byte) : Statement (.addbIdx ff) := ⟨rfl, Nat.le_of_ble_eq_true rfl⟩
theorem subbExt (hhll : Word) : Statement (.subbExt hhll) := ⟨rfl, Nat.le_of_ble_eq_true rfl⟩
theorem cmpbExt (hhll : Word) : Statement (.cmpbExt hhll) := ⟨rfl, Nat.le_of_ble_eq_true rfl⟩
theorem sbcbExt (hhll : Word) : Statement (.sbcbExt hhll) := ⟨rfl, Nat.le_of_ble_eq_true rfl⟩
theorem andbExt (hhll : Word) : Statement (.andbExt hhll) := ⟨rfl, Nat.le_of_ble_eq_true rfl⟩
theorem bitbExt (hhll : Word) : Statement (.bitbExt hhll) := ⟨rfl, Nat.le_of_ble_eq_true rfl⟩
theorem ldabExt (hhll : Word) : Statement (.ldabExt hhll) := ⟨rfl, Nat.le_of_ble_eq_true rfl⟩
theorem stabExt (hhll : Word) : Statement (.stabExt hhll) := ⟨rfl, Nat.le_of_ble_eq_true rfl⟩
theorem eorbExt (hhll : Word) : Statement (.eorbExt hhll) := ⟨rfl, Nat.le_of_ble_eq_true rfl⟩
theorem adcbExt (hhll : Word) : Statement (.adcbExt hhll) := ⟨rfl, Nat.le_of_ble_eq_true rfl⟩
theorem orabExt (hhll : Word) : Statement (.orabExt hhll) := ⟨rfl, Nat.le_of_ble_eq_true rfl⟩
theorem addbExt (hhll : Word) : Statement (.addbExt hhll) := ⟨rfl, Nat.le_of_ble_eq_true rfl⟩
theorem unrecognised (opcode : Byte) : Statement (.unrecognised opcode) := ⟨rfl, Nat.le_of_ble_eq_true rfl⟩

end Sys2Proof.Laws.EncodedLength
end

