-- ==== Sys2Proof/Tests/Slice0.lean ====
section
/-! SUPPORT. The model's own tests. Expected values are the spec's: the encodings of spec/opcode_table.json
and 30_encoding R98 to R103, the vectors of 95_test_vectors (the row is named), worked out from the spec's
rules and not from this model. At the end, a witness for the hypotheses of every obligation that has any. -/

namespace Sys2Proof.Tests

open Sys2Proof.Machine Sys2Proof.Claims

/-! ## Ill-formed terms are refused -/

theorem test_wf_refuses_unrecognised_nop : (Instr.unrecognised 0x01).wf = false := by decide
theorem test_wf_refuses_unrecognised_last_store : (Instr.unrecognised 0xF7).wf = false := by decide
theorem test_wf_accepts_unrecognised_cpx : (Instr.unrecognised 0x8C).wf = true := by decide

/-! ## Decoding: every constructor, its opcode written out bit by bit (spec/opcode_table.json) -/

theorem test_decode_row0 :
    decode [0b00000001] = .ok (.nop, []) ∧
    decode [0b00000110] = .ok (.tap, []) ∧
    decode [0b00000111] = .ok (.tpa, []) ∧
    decode [0b00001000] = .ok (.inx, []) ∧
    decode [0b00001001] = .ok (.dex, []) ∧
    decode [0b00001010] = .ok (.clv, []) ∧
    decode [0b00001011] = .ok (.sev, []) ∧
    decode [0b00001100] = .ok (.clc, []) ∧
    decode [0b00001101] = .ok (.sec, []) ∧
    decode [0b00001110] = .ok (.cli, []) ∧
    decode [0b00001111] = .ok (.sei, []) :=
  ⟨rfl, rfl, rfl, rfl, rfl, rfl, rfl, rfl, rfl, rfl, rfl⟩

theorem test_decode_row2 :
    decode [0b00100000, 0xA1] = .ok (.bra 0xA1, []) ∧
    decode [0b00100001, 0xA1] = .ok (.brn 0xA1, []) ∧
    decode [0b00100010, 0xA1] = .ok (.bhi 0xA1, []) ∧
    decode [0b00100011, 0xA1] = .ok (.bls 0xA1, []) ∧
    decode [0b00100100, 0xA1] = .ok (.bcc 0xA1, []) ∧
    decode [0b00100101, 0xA1] = .ok (.bcs 0xA1, []) ∧
    decode [0b00100110, 0xA1] = .ok (.bne 0xA1, []) ∧
    decode [0b00100111, 0xA1] = .ok (.beq 0xA1, []) ∧
    decode [0b00101000, 0xA1] = .ok (.bvc 0xA1, []) ∧
    decode [0b00101001, 0xA1] = .ok (.bvs 0xA1, []) ∧
    decode [0b00101010, 0xA1] = .ok (.bpl 0xA1, []) ∧
    decode [0b00101011, 0xA1] = .ok (.bmi 0xA1, []) ∧
    decode [0b00101100, 0xA1] = .ok (.bge 0xA1, []) ∧
    decode [0b00101101, 0xA1] = .ok (.blt 0xA1, []) ∧
    decode [0b00101110, 0xA1] = .ok (.bgt 0xA1, []) ∧
    decode [0b00101111, 0xA1] = .ok (.ble 0xA1, []) :=
  ⟨rfl, rfl, rfl, rfl, rfl, rfl, rfl, rfl, rfl, rfl, rfl, rfl, rfl, rfl, rfl, rfl⟩

theorem test_decode_row4 :
    decode [0b01000000] = .ok (.nega, []) ∧
    decode [0b01000011] = .ok (.coma, []) ∧
    decode [0b01000100] = .ok (.lsra, []) ∧
    decode [0b01000110] = .ok (.rora, []) ∧
    decode [0b01000111] = .ok (.asra, []) ∧
    decode [0b01001000] = .ok (.asla, []) ∧
    decode [0b01001001] = .ok (.rola, []) ∧
    decode [0b01001010] = .ok (.deca, []) ∧
    decode [0b01001100] = .ok (.inca, []) ∧
    decode [0b01001101] = .ok (.tsta, []) ∧
    decode [0b01001111] = .ok (.clra, []) :=
  ⟨rfl, rfl, rfl, rfl, rfl, rfl, rfl, rfl, rfl, rfl, rfl⟩

theorem test_decode_row5 :
    decode [0b01010000] = .ok (.negb, []) ∧
    decode [0b01010011] = .ok (.comb, []) ∧
    decode [0b01010100] = .ok (.lsrb, []) ∧
    decode [0b01010110] = .ok (.rorb, []) ∧
    decode [0b01010111] = .ok (.asrb, []) ∧
    decode [0b01011000] = .ok (.aslb, []) ∧
    decode [0b01011001] = .ok (.rolb, []) ∧
    decode [0b01011010] = .ok (.decb, []) ∧
    decode [0b01011100] = .ok (.incb, []) ∧
    decode [0b01011101] = .ok (.tstb, []) ∧
    decode [0b01011111] = .ok (.clrb, []) :=
  ⟨rfl, rfl, rfl, rfl, rfl, rfl, rfl, rfl, rfl, rfl, rfl⟩

theorem test_decode_row6 :
    decode [0b01100000, 0xA1] = .ok (.negIdx 0xA1, []) ∧
    decode [0b01100011, 0xA1] = .ok (.comIdx 0xA1, []) ∧
    decode [0b01100100, 0xA1] = .ok (.lsrIdx 0xA1, []) ∧
    decode [0b01100110, 0xA1] = .ok (.rorIdx 0xA1, []) ∧
    decode [0b01100111, 0xA1] = .ok (.asrIdx 0xA1, []) ∧
    decode [0b01101000, 0xA1] = .ok (.aslIdx 0xA1, []) ∧
    decode [0b01101001, 0xA1] = .ok (.rolIdx 0xA1, []) ∧
    decode [0b01101010, 0xA1] = .ok (.decIdx 0xA1, []) ∧
    decode [0b01101100, 0xA1] = .ok (.incIdx 0xA1, []) ∧
    decode [0b01101101, 0xA1] = .ok (.tstIdx 0xA1, []) ∧
    decode [0b01101110, 0xA1] = .ok (.jmpIdx 0xA1, []) ∧
    decode [0b01101111, 0xA1] = .ok (.clrIdx 0xA1, []) :=
  ⟨rfl, rfl, rfl, rfl, rfl, rfl, rfl, rfl, rfl, rfl, rfl, rfl⟩

theorem test_decode_row7 :
    decode [0b01110000, 0xA1, 0xB2] = .ok (.negExt 0xA1B2, []) ∧
    decode [0b01110011, 0xA1, 0xB2] = .ok (.comExt 0xA1B2, []) ∧
    decode [0b01110100, 0xA1, 0xB2] = .ok (.lsrExt 0xA1B2, []) ∧
    decode [0b01110110, 0xA1, 0xB2] = .ok (.rorExt 0xA1B2, []) ∧
    decode [0b01110111, 0xA1, 0xB2] = .ok (.asrExt 0xA1B2, []) ∧
    decode [0b01111000, 0xA1, 0xB2] = .ok (.aslExt 0xA1B2, []) ∧
    decode [0b01111001, 0xA1, 0xB2] = .ok (.rolExt 0xA1B2, []) ∧
    decode [0b01111010, 0xA1, 0xB2] = .ok (.decExt 0xA1B2, []) ∧
    decode [0b01111100, 0xA1, 0xB2] = .ok (.incExt 0xA1B2, []) ∧
    decode [0b01111101, 0xA1, 0xB2] = .ok (.tstExt 0xA1B2, []) ∧
    decode [0b01111110, 0xA1, 0xB2] = .ok (.jmpExt 0xA1B2, []) ∧
    decode [0b01111111, 0xA1, 0xB2] = .ok (.clrExt 0xA1B2, []) :=
  ⟨rfl, rfl, rfl, rfl, rfl, rfl, rfl, rfl, rfl, rfl, rfl, rfl⟩

theorem test_decode_row8 :
    decode [0b10000000, 0xA1] = .ok (.subaImm 0xA1, []) ∧
    decode [0b10000001, 0xA1] = .ok (.cmpaImm 0xA1, []) ∧
    decode [0b10000010, 0xA1] = .ok (.sbcaImm 0xA1, []) ∧
    decode [0b10000100, 0xA1] = .ok (.andaImm 0xA1, []) ∧
    decode [0b10000101, 0xA1] = .ok (.bitaImm 0xA1, []) ∧
    decode [0b10000110, 0xA1] = .ok (.ldaaImm 0xA1, []) ∧
    decode [0b10001000, 0xA1] = .ok (.eoraImm 0xA1, []) ∧
    decode [0b10001001, 0xA1] = .ok (.adcaImm 0xA1, []) ∧
    decode [0b10001010, 0xA1] = .ok (.oraaImm 0xA1, []) ∧
    decode [0b10001011, 0xA1] = .ok (.addaImm 0xA1, []) :=
  ⟨rfl, rfl, rfl, rfl, rfl, rfl, rfl, rfl, rfl, rfl⟩

theorem test_decode_row9 :
    decode [0b10010000, 0xA1] = .ok (.subaDir 0xA1, []) ∧
    decode [0b10010001, 0xA1] = .ok (.cmpaDir 0xA1, []) ∧
    decode [0b10010010, 0xA1] = .ok (.sbcaDir 0xA1, []) ∧
    decode [0b10010100, 0xA1] = .ok (.andaDir 0xA1, []) ∧
    decode [0b10010101, 0xA1] = .ok (.bitaDir 0xA1, []) ∧
    decode [0b10010110, 0xA1] = .ok (.ldaaDir 0xA1, []) ∧
    decode [0b10010111, 0xA1] = .ok (.staaDir 0xA1, []) ∧
    decode [0b10011000, 0xA1] = .ok (.eoraDir 0xA1, []) ∧
    decode [0b10011001, 0xA1] = .ok (.adcaDir 0xA1, []) ∧
    decode [0b10011010, 0xA1] = .ok (.oraaDir 0xA1, []) ∧
    decode [0b10011011, 0xA1] = .ok (.addaDir 0xA1, []) :=
  ⟨rfl, rfl, rfl, rfl, rfl, rfl, rfl, rfl, rfl, rfl, rfl⟩

theorem test_decode_rowA :
    decode [0b10100000, 0xA1] = .ok (.subaIdx 0xA1, []) ∧
    decode [0b10100001, 0xA1] = .ok (.cmpaIdx 0xA1, []) ∧
    decode [0b10100010, 0xA1] = .ok (.sbcaIdx 0xA1, []) ∧
    decode [0b10100100, 0xA1] = .ok (.andaIdx 0xA1, []) ∧
    decode [0b10100101, 0xA1] = .ok (.bitaIdx 0xA1, []) ∧
    decode [0b10100110, 0xA1] = .ok (.ldaaIdx 0xA1, []) ∧
    decode [0b10100111, 0xA1] = .ok (.staaIdx 0xA1, []) ∧
    decode [0b10101000, 0xA1] = .ok (.eoraIdx 0xA1, []) ∧
    decode [0b10101001, 0xA1] = .ok (.adcaIdx 0xA1, []) ∧
    decode [0b10101010, 0xA1] = .ok (.oraaIdx 0xA1, []) ∧
    decode [0b10101011, 0xA1] = .ok (.addaIdx 0xA1, []) :=
  ⟨rfl, rfl, rfl, rfl, rfl, rfl, rfl, rfl, rfl, rfl, rfl⟩

theorem test_decode_rowB :
    decode [0b10110000, 0xA1, 0xB2] = .ok (.subaExt 0xA1B2, []) ∧
    decode [0b10110001, 0xA1, 0xB2] = .ok (.cmpaExt 0xA1B2, []) ∧
    decode [0b10110010, 0xA1, 0xB2] = .ok (.sbcaExt 0xA1B2, []) ∧
    decode [0b10110100, 0xA1, 0xB2] = .ok (.andaExt 0xA1B2, []) ∧
    decode [0b10110101, 0xA1, 0xB2] = .ok (.bitaExt 0xA1B2, []) ∧
    decode [0b10110110, 0xA1, 0xB2] = .ok (.ldaaExt 0xA1B2, []) ∧
    decode [0b10110111, 0xA1, 0xB2] = .ok (.staaExt 0xA1B2, []) ∧
    decode [0b10111000, 0xA1, 0xB2] = .ok (.eoraExt 0xA1B2, []) ∧
    decode [0b10111001, 0xA1, 0xB2] = .ok (.adcaExt 0xA1B2, []) ∧
    decode [0b10111010, 0xA1, 0xB2] = .ok (.oraaExt 0xA1B2, []) ∧
    decode [0b10111011, 0xA1, 0xB2] = .ok (.addaExt 0xA1B2, []) :=
  ⟨rfl, rfl, rfl, rfl, rfl, rfl, rfl, rfl, rfl, rfl, rfl⟩

theorem test_decode_rowC :
    decode [0b11000000, 0xA1] = .ok (.subbImm 0xA1, []) ∧
    decode [0b11000001, 0xA1] = .ok (.cmpbImm 0xA1, []) ∧
    decode [0b11000010, 0xA1] = .ok (.sbcbImm 0xA1, []) ∧
    decode [0b11000100, 0xA1] = .ok (.andbImm 0xA1, []) ∧
    decode [0b11000101, 0xA1] = .ok (.bitbImm 0xA1, []) ∧
    decode [0b11000110, 0xA1] = .ok (.ldabImm 0xA1, []) ∧
    decode [0b11001000, 0xA1] = .ok (.eorbImm 0xA1, []) ∧
    decode [0b11001001, 0xA1] = .ok (.adcbImm 0xA1, []) ∧
    decode [0b11001010, 0xA1] = .ok (.orabImm 0xA1, []) ∧
    decode [0b11001011, 0xA1] = .ok (.addbImm 0xA1, []) :=
  ⟨rfl, rfl, rfl, rfl, rfl, rfl, rfl, rfl, rfl, rfl⟩

theorem test_decode_rowD :
    decode [0b11010000, 0xA1] = .ok (.subbDir 0xA1, []) ∧
    decode [0b11010001, 0xA1] = .ok (.cmpbDir 0xA1, []) ∧
    decode [0b11010010, 0xA1] = .ok (.sbcbDir 0xA1, []) ∧
    decode [0b11010100, 0xA1] = .ok (.andbDir 0xA1, []) ∧
    decode [0b11010101, 0xA1] = .ok (.bitbDir 0xA1, []) ∧
    decode [0b11010110, 0xA1] = .ok (.ldabDir 0xA1, []) ∧
    decode [0b11010111, 0xA1] = .ok (.stabDir 0xA1, []) ∧
    decode [0b11011000, 0xA1] = .ok (.eorbDir 0xA1, []) ∧
    decode [0b11011001, 0xA1] = .ok (.adcbDir 0xA1, []) ∧
    decode [0b11011010, 0xA1] = .ok (.orabDir 0xA1, []) ∧
    decode [0b11011011, 0xA1] = .ok (.addbDir 0xA1, []) :=
  ⟨rfl, rfl, rfl, rfl, rfl, rfl, rfl, rfl, rfl, rfl, rfl⟩

theorem test_decode_rowE :
    decode [0b11100000, 0xA1] = .ok (.subbIdx 0xA1, []) ∧
    decode [0b11100001, 0xA1] = .ok (.cmpbIdx 0xA1, []) ∧
    decode [0b11100010, 0xA1] = .ok (.sbcbIdx 0xA1, []) ∧
    decode [0b11100100, 0xA1] = .ok (.andbIdx 0xA1, []) ∧
    decode [0b11100101, 0xA1] = .ok (.bitbIdx 0xA1, []) ∧
    decode [0b11100110, 0xA1] = .ok (.ldabIdx 0xA1, []) ∧
    decode [0b11100111, 0xA1] = .ok (.stabIdx 0xA1, []) ∧
    decode [0b11101000, 0xA1] = .ok (.eorbIdx 0xA1, []) ∧
    decode [0b11101001, 0xA1] = .ok (.adcbIdx 0xA1, []) ∧
    decode [0b11101010, 0xA1] = .ok (.orabIdx 0xA1, []) ∧
    decode [0b11101011, 0xA1] = .ok (.addbIdx 0xA1, []) :=
  ⟨rfl, rfl, rfl, rfl, rfl, rfl, rfl, rfl, rfl, rfl, rfl⟩

theorem test_decode_rowF :
    decode [0b11110000, 0xA1, 0xB2] = .ok (.subbExt 0xA1B2, []) ∧
    decode [0b11110001, 0xA1, 0xB2] = .ok (.cmpbExt 0xA1B2, []) ∧
    decode [0b11110010, 0xA1, 0xB2] = .ok (.sbcbExt 0xA1B2, []) ∧
    decode [0b11110100, 0xA1, 0xB2] = .ok (.andbExt 0xA1B2, []) ∧
    decode [0b11110101, 0xA1, 0xB2] = .ok (.bitbExt 0xA1B2, []) ∧
    decode [0b11110110, 0xA1, 0xB2] = .ok (.ldabExt 0xA1B2, []) ∧
    decode [0b11110111, 0xA1, 0xB2] = .ok (.stabExt 0xA1B2, []) ∧
    decode [0b11111000, 0xA1, 0xB2] = .ok (.eorbExt 0xA1B2, []) ∧
    decode [0b11111001, 0xA1, 0xB2] = .ok (.adcbExt 0xA1B2, []) ∧
    decode [0b11111010, 0xA1, 0xB2] = .ok (.orabExt 0xA1B2, []) ∧
    decode [0b11111011, 0xA1, 0xB2] = .ok (.addbExt 0xA1B2, []) :=
  ⟨rfl, rfl, rfl, rfl, rfl, rfl, rfl, rfl, rfl, rfl, rfl⟩

theorem test_decode_unrecognised :
    decode [0b10001100, 0x12] = .ok (.unrecognised 0x8C, [0x12]) ∧ decode [0b00000000] = .ok (.unrecognised 0x00, []) ∧
    decode [0b10000111, 0x55] = .ok (.unrecognised 0x87, [0x55]) ∧ decode [0b01001110] = .ok (.unrecognised 0x4E, []) ∧
    decode [0b00111111] = .ok (.unrecognised 0x3F, []) :=
  ⟨rfl, rfl, rfl, rfl, rfl⟩

/-- Bit 0 of a table word is the low bit of the first byte; the second byte is bits 15:8. -/
theorem test_table_word :
    decodeTableWord 16 0x128B = some (.addaImm 0x12) ∧ decodeTableWord 24 0x34127E = some (.jmpExt 0x1234) ∧
    decodeTableWord 8 0x08 = some .inx ∧ decodeTableWord 8 0x8B = some (.addaImm 0x00) := by decide

/-! ## One step (95_test_vectors, Part 2) -/

/-- The memory with `code` stored from `pc` on. -/
def place (m : Memory) (pc : Word) : List Byte → Memory
  | [] => m
  | b :: rest => place (m.write pc b) (pc + 1) rest

/-- An instruction boundary at `pc` with `code` there and the bytes `data`; every register named zero. -/
def boundary (pc : Word) (code : List Byte) (data : List (Word × Byte)) : State where
  a := 0
  b := 0
  x := 0
  sp := 0
  pc := pc
  instr := 0
  tmp8 := 0
  tmp16 := 0
  ccs := 0xD0
  cycle := 0
  rst := 3
  addr := pc
  dout := 0
  rw := true
  vma := true
  mem := place (data.foldl (fun m d => m.write d.1 d.2) []) pc code
  rstIn := []
  draws := 0

/-- The state after one step. -/
def after (s : State) : Option State :=
  match step s with
  | .next t => some t
  | .refused _ => none

theorem test_A1_adda : (after { boundary 0x1000 [0x8B, 0x01] [] with a := 0x7F, ccs := 0xD0 }).map
    (fun t => (t.a, t.ccs, t.pc)) = some (0x80, 0xFA, 0x1002) := by decide
theorem test_A2_adda : (after { boundary 0x1000 [0x8B, 0x01] [] with a := 0xFF, ccs := 0xD0 }).map
    (fun t => (t.a, t.ccs, t.pc)) = some (0x00, 0xF5, 0x1002) := by decide
theorem test_A3_addb : (after { boundary 0x1000 [0xDB, 0x00] [(0x0000, 0x80)] with b := 0x80, ccs := 0xD0 }).map
    (fun t => (t.b, t.ccs, t.pc)) = some (0x00, 0xD7, 0x1002) := by decide
theorem test_A5_addb : (after { boundary 0x1000 [0xEB, 0x05] [(0x0103, 0x02)] with b := 0x01, x := 0x00FE, ccs := 0xD0 }).map
    (fun t => (t.b, t.ccs, t.pc, t.x)) = some (0x03, 0xD0, 0x1002, 0x00FE) := by decide
theorem test_A6_adca : (after { boundary 0x1000 [0x89, 0x00] [] with a := 0xFF, ccs := 0xD1 }).map
    (fun t => (t.a, t.ccs, t.pc)) = some (0x00, 0xF5, 0x1002) := by decide
theorem test_A7_adcb : (after { boundary 0x1000 [0xF9, 0x00, 0x10] [(0x0010, 0x00)] with b := 0x0F, ccs := 0xD1 }).map
    (fun t => (t.b, t.ccs, t.pc)) = some (0x10, 0xF0, 0x1003) := by decide
theorem test_A8_adca : (after { boundary 0x1000 [0x99, 0x40] [(0x0040, 0x7F)] with a := 0x7F, ccs := 0xD1 }).map
    (fun t => (t.a, t.ccs, t.pc)) = some (0xFF, 0xFA, 0x1002) := by decide
theorem test_A9_suba : (after { boundary 0x1000 [0x80, 0x01] [] with a := 0x00, ccs := 0xD0 }).map
    (fun t => (t.a, t.ccs, t.pc)) = some (0xFF, 0xD9, 0x1002) := by decide
theorem test_A10_subb : (after { boundary 0x1000 [0xD0, 0x40] [(0x0040, 0x01)] with b := 0x80, ccs := 0xD0 }).map
    (fun t => (t.b, t.ccs, t.pc)) = some (0x7F, 0xD2, 0x1002) := by decide
theorem test_A11_suba : (after { boundary 0x1000 [0xA0, 0x00] [(0x1234, 0x55)] with a := 0x55, x := 0x1234, ccs := 0xD0 }).map
    (fun t => (t.a, t.ccs, t.pc, t.x)) = some (0x00, 0xD4, 0x1002, 0x1234) := by decide
theorem test_A12_cmpa : (after { boundary 0x1000 [0xB1, 0x20, 0x00] [(0x2000, 0x05)] with a := 0x05, ccs := 0xD0 }).map
    (fun t => (t.ccs, t.pc, t.a)) = some (0xD4, 0x1003, 0x05) := by decide
theorem test_A13_cmpb : (after { boundary 0x1000 [0xC1, 0x80] [] with b := 0x7F, ccs := 0xD0 }).map
    (fun t => (t.ccs, t.pc, t.b)) = some (0xDB, 0x1002, 0x7F) := by decide
theorem test_A14_cmpa : (after { boundary 0x1000 [0x81, 0x02] [] with a := 0x01, ccs := 0xF0 }).map
    (fun t => (t.ccs, t.pc, t.a)) = some (0xF9, 0x1002, 0x01) := by decide
theorem test_A15_sbcb : (after { boundary 0x1000 [0xE2, 0x02] [(0x0102, 0x0F)] with b := 0x10, x := 0x0100, ccs := 0xD1 }).map
    (fun t => (t.b, t.ccs, t.pc, t.x)) = some (0x00, 0xD4, 0x1002, 0x0100) := by decide
theorem test_A16_sbca : (after { boundary 0x1000 [0x82, 0x00] [] with a := 0x00, ccs := 0xD1 }).map
    (fun t => (t.a, t.ccs, t.pc)) = some (0xFF, 0xD9, 0x1002) := by decide
theorem test_A17_sbca : (after { boundary 0x1000 [0x82, 0xFF] [] with a := 0x00, ccs := 0xD1 }).map
    (fun t => (t.a, t.ccs, t.pc)) = some (0x00, 0xD5, 0x1002) := by decide
theorem test_A18_anda : (after { boundary 0x1000 [0x84, 0x0F] [] with a := 0xF0, ccs := 0xD3 }).map
    (fun t => (t.a, t.ccs, t.pc)) = some (0x00, 0xD5, 0x1002) := by decide
theorem test_A19_andb : (after { boundary 0x1000 [0xD4, 0x80] [(0x0080, 0x80)] with b := 0xFF, ccs := 0xD0 }).map
    (fun t => (t.b, t.ccs, t.pc)) = some (0x80, 0xD8, 0x1002) := by decide
theorem test_A20_bita : (after { boundary 0x1000 [0x85, 0x80] [] with a := 0x80, ccs := 0xD3 }).map
    (fun t => (t.ccs, t.pc, t.a)) = some (0xD9, 0x1002, 0x80) := by decide
theorem test_A21_bitb : (after { boundary 0x1000 [0xF5, 0x30, 0x00] [(0x3000, 0xF0)] with b := 0x0F, ccs := 0xD0 }).map
    (fun t => (t.ccs, t.pc, t.b)) = some (0xD4, 0x1003, 0x0F) := by decide
theorem test_A22_eora : (after { boundary 0x1000 [0x88, 0xFF] [] with a := 0xFF, ccs := 0xD2 }).map
    (fun t => (t.a, t.ccs, t.pc)) = some (0x00, 0xD4, 0x1002) := by decide
theorem test_A23_eorb : (after { boundary 0x1000 [0xE8, 0x10] [(0x4010, 0xF0)] with b := 0x0F, x := 0x4000, ccs := 0xD0 }).map
    (fun t => (t.b, t.ccs, t.pc, t.x)) = some (0xFF, 0xD8, 0x1002, 0x4000) := by decide
theorem test_A24_ldaa : (after { boundary 0x1000 [0x86, 0x00] [] with ccs := 0xDB }).map
    (fun t => (t.a, t.ccs, t.pc)) = some (0x00, 0xD5, 0x1002) := by decide
theorem test_A25_ldaa : (after { boundary 0x1000 [0x96, 0x40] [(0x0040, 0x80)] with ccs := 0xD0 }).map
    (fun t => (t.a, t.ccs, t.pc)) = some (0x80, 0xD8, 0x1002) := by decide
theorem test_A26_ldab : (after { boundary 0x1000 [0xE6, 0xFF] [(0x007F, 0x42)] with x := 0xFF80, ccs := 0xD0 }).map
    (fun t => (t.b, t.ccs, t.pc, t.x)) = some (0x42, 0xD0, 0x1002, 0xFF80) := by decide
theorem test_A28_oraa : (after { boundary 0x1000 [0x8A, 0x00] [] with a := 0x00, ccs := 0xDA }).map
    (fun t => (t.a, t.ccs, t.pc)) = some (0x00, 0xD4, 0x1002) := by decide
theorem test_A29_orab : (after { boundary 0x1000 [0xDA, 0x01] [(0x0001, 0x80)] with b := 0x01, ccs := 0xD0 }).map
    (fun t => (t.b, t.ccs, t.pc)) = some (0x81, 0xD8, 0x1002) := by decide
theorem test_M1_nega : (after { boundary 0x1000 [0x40] [] with a := 0x01, ccs := 0xD0 }).map
    (fun t => (t.a, t.ccs, t.pc)) = some (0xFF, 0xD9, 0x1001) := by decide
theorem test_M2_negb : (after { boundary 0x1000 [0x50] [] with b := 0x80, ccs := 0xD0 }).map
    (fun t => (t.b, t.ccs, t.pc)) = some (0x80, 0xDB, 0x1001) := by decide
theorem test_M3_nega : (after { boundary 0x1000 [0x40] [] with a := 0x00, ccs := 0xD1 }).map
    (fun t => (t.a, t.ccs, t.pc)) = some (0x00, 0xD4, 0x1001) := by decide
theorem test_M4_neg : (after { boundary 0x1000 [0x70, 0x20, 0x00] [(0x2000, 0x05)] with ccs := 0xD0 }).map
    (fun t => (t.ccs, t.pc, t.mem.read 0x2000)) = some (0xD9, 0x1003, 0xFB) := by decide
theorem test_M5_coma : (after { boundary 0x1000 [0x43] [] with a := 0x55, ccs := 0xD0 }).map
    (fun t => (t.a, t.ccs, t.pc)) = some (0xAA, 0xD9, 0x1001) := by decide
theorem test_M6_com : (after { boundary 0x1000 [0x63, 0x01] [(0x0100, 0xFF)] with x := 0x00FF, ccs := 0xD0 }).map
    (fun t => (t.ccs, t.pc, t.mem.read 0x0100, t.x)) = some (0xD5, 0x1002, 0x00, 0x00FF) := by decide
theorem test_M7_lsra : (after { boundary 0x1000 [0x44] [] with a := 0x01, ccs := 0xD0 }).map
    (fun t => (t.a, t.ccs, t.pc)) = some (0x00, 0xD7, 0x1001) := by decide
theorem test_M8_lsr : (after { boundary 0x1000 [0x74, 0x20, 0x00] [(0x2000, 0x80)] with ccs := 0xD8 }).map
    (fun t => (t.ccs, t.pc, t.mem.read 0x2000)) = some (0xD0, 0x1003, 0x40) := by decide
theorem test_M9_rora : (after { boundary 0x1000 [0x46] [] with a := 0x01, ccs := 0xD1 }).map
    (fun t => (t.a, t.ccs, t.pc)) = some (0x80, 0xD9, 0x1001) := by decide
theorem test_M10_rorb : (after { boundary 0x1000 [0x56] [] with b := 0x00, ccs := 0xD0 }).map
    (fun t => (t.b, t.ccs, t.pc)) = some (0x00, 0xD4, 0x1001) := by decide
theorem test_M11_asrb : (after { boundary 0x1000 [0x57] [] with b := 0x81, ccs := 0xD0 }).map
    (fun t => (t.b, t.ccs, t.pc)) = some (0xC0, 0xD9, 0x1001) := by decide
theorem test_M12_asr : (after { boundary 0x1000 [0x77, 0x30, 0x00] [(0x3000, 0x7F)] with ccs := 0xD0 }).map
    (fun t => (t.ccs, t.pc, t.mem.read 0x3000)) = some (0xD3, 0x1003, 0x3F) := by decide
theorem test_M13_asla : (after { boundary 0x1000 [0x48] [] with a := 0x40, ccs := 0xD0 }).map
    (fun t => (t.a, t.ccs, t.pc)) = some (0x80, 0xDA, 0x1001) := by decide
theorem test_M14_aslb : (after { boundary 0x1000 [0x58] [] with b := 0x80, ccs := 0xD0 }).map
    (fun t => (t.b, t.ccs, t.pc)) = some (0x00, 0xD7, 0x1001) := by decide
theorem test_M15_asl : (after { boundary 0x1000 [0x68, 0x00] [(0x0080, 0xC0)] with x := 0x0080, ccs := 0xD0 }).map
    (fun t => (t.ccs, t.pc, t.mem.read 0x0080, t.x)) = some (0xD9, 0x1002, 0x80, 0x0080) := by decide
theorem test_M16_rola : (after { boundary 0x1000 [0x49] [] with a := 0x80, ccs := 0xD1 }).map
    (fun t => (t.a, t.ccs, t.pc)) = some (0x01, 0xD3, 0x1001) := by decide
theorem test_M17_rol : (after { boundary 0x1000 [0x79, 0x20, 0x00] [(0x2000, 0x7F)] with ccs := 0xD0 }).map
    (fun t => (t.ccs, t.pc, t.mem.read 0x2000)) = some (0xDA, 0x1003, 0xFE) := by decide
theorem test_M18_deca : (after { boundary 0x1000 [0x4A] [] with a := 0x80, ccs := 0xD1 }).map
    (fun t => (t.a, t.ccs, t.pc)) = some (0x7F, 0xD3, 0x1001) := by decide
theorem test_M19_decb : (after { boundary 0x1000 [0x5A] [] with b := 0x00, ccs := 0xD0 }).map
    (fun t => (t.b, t.ccs, t.pc)) = some (0xFF, 0xD8, 0x1001) := by decide
theorem test_M20_dec : (after { boundary 0x1000 [0x7A, 0x20, 0x00] [(0x2000, 0x01)] with ccs := 0xD0 }).map
    (fun t => (t.ccs, t.pc, t.mem.read 0x2000)) = some (0xD4, 0x1003, 0x00) := by decide
theorem test_M21_inca : (after { boundary 0x1000 [0x4C] [] with a := 0x7F, ccs := 0xD0 }).map
    (fun t => (t.a, t.ccs, t.pc)) = some (0x80, 0xDA, 0x1001) := by decide
theorem test_M22_incb : (after { boundary 0x1000 [0x5C] [] with b := 0xFF, ccs := 0xD1 }).map
    (fun t => (t.b, t.ccs, t.pc)) = some (0x00, 0xD5, 0x1001) := by decide
theorem test_M23_inc : (after { boundary 0x1000 [0x6C, 0xFF] [(0x0000, 0x0F)] with x := 0xFF01, ccs := 0xD0 }).map
    (fun t => (t.ccs, t.pc, t.mem.read 0x0000, t.x)) = some (0xD0, 0x1002, 0x10, 0xFF01) := by decide
theorem test_M24_tsta : (after { boundary 0x1000 [0x4D] [] with a := 0x80, ccs := 0xD3 }).map
    (fun t => (t.ccs, t.pc, t.a)) = some (0xD8, 0x1001, 0x80) := by decide
theorem test_M25_tst : (after { boundary 0x1000 [0x7D, 0x20, 0x00] [(0x2000, 0x00)] with ccs := 0xDB }).map
    (fun t => (t.ccs, t.pc)) = some (0xD4, 0x1003) := by decide
theorem test_M26_clra : (after { boundary 0x1000 [0x4F] [] with a := 0xA5, ccs := 0xDB }).map
    (fun t => (t.a, t.ccs, t.pc)) = some (0x00, 0xD4, 0x1001) := by decide
theorem test_M27_clr : (after { boundary 0x1000 [0x7F, 0x20, 0x00] [(0x2000, 0xFF)] with ccs := 0xFB }).map
    (fun t => (t.ccs, t.pc, t.mem.read 0x2000)) = some (0xF4, 0x1003, 0x00) := by decide
theorem test_M28_clrb : (after { boundary 0x1000 [0x5F] [] with b := 0x37, ccs := 0xDB }).map
    (fun t => (t.b, t.ccs, t.pc)) = some (0x00, 0xD4, 0x1001) := by decide
theorem test_M29_inc : (after { boundary 0x1000 [0x7C, 0x10, 0x01] [] with ccs := 0xD0 }).map
    (fun t => (t.ccs, t.pc, t.mem.read 0x1001)) = some (0xD0, 0x1003, 0x11) := by decide
theorem test_B1_bra : (after { boundary 0x1000 [0x20, 0x7F] [] with ccs := 0xD0 }).map
    (fun t => (t.ccs, t.pc)) = some (0xD0, 0x1081) := by decide
theorem test_B2_bra : (after { boundary 0x1000 [0x20, 0x80] [] with ccs := 0xD0 }).map
    (fun t => (t.ccs, t.pc)) = some (0xD0, 0x0F82) := by decide
theorem test_B5_brn : (after { boundary 0x1000 [0x21, 0x10] [] with ccs := 0xFF }).map
    (fun t => (t.ccs, t.pc)) = some (0xFF, 0x1002) := by decide
theorem test_B6_bhi : (after { boundary 0x1000 [0x22, 0x10] [] with ccs := 0xD0 }).map
    (fun t => (t.pc, t.ccs)) = some (0x1012, 0xD0) := by decide
theorem test_B7_bhi : (after { boundary 0x1000 [0x22, 0x10] [] with ccs := 0xD4 }).map
    (fun t => (t.pc, t.ccs)) = some (0x1002, 0xD4) := by decide
theorem test_B8_bls : (after { boundary 0x1000 [0x23, 0x10] [] with ccs := 0xD1 }).map
    (fun t => (t.pc, t.ccs)) = some (0x1012, 0xD1) := by decide
theorem test_B9_bcc : (after { boundary 0x1000 [0x24, 0x10] [] with ccs := 0xD1 }).map
    (fun t => (t.pc, t.ccs)) = some (0x1002, 0xD1) := by decide
theorem test_B10_bcs : (after { boundary 0x1000 [0x25, 0x10] [] with ccs := 0xD1 }).map
    (fun t => (t.pc, t.ccs)) = some (0x1012, 0xD1) := by decide
theorem test_B11_bne : (after { boundary 0x1000 [0x26, 0xFC] [] with ccs := 0xD0 }).map
    (fun t => (t.pc, t.ccs)) = some (0x0FFE, 0xD0) := by decide
theorem test_B12_bne : (after { boundary 0x1000 [0x26, 0xFC] [] with ccs := 0xD4 }).map
    (fun t => (t.pc, t.ccs)) = some (0x1002, 0xD4) := by decide
theorem test_B13_beq : (after { boundary 0x1000 [0x27, 0x02] [] with ccs := 0xD4 }).map
    (fun t => (t.pc, t.ccs)) = some (0x1004, 0xD4) := by decide
theorem test_B14_bvc : (after { boundary 0x1000 [0x28, 0x02] [] with ccs := 0xD2 }).map
    (fun t => (t.pc, t.ccs)) = some (0x1002, 0xD2) := by decide
theorem test_B15_bvs : (after { boundary 0x1000 [0x29, 0x02] [] with ccs := 0xD2 }).map
    (fun t => (t.pc, t.ccs)) = some (0x1004, 0xD2) := by decide
theorem test_B16_bpl : (after { boundary 0x1000 [0x2A, 0x02] [] with ccs := 0xD8 }).map
    (fun t => (t.pc, t.ccs)) = some (0x1002, 0xD8) := by decide
theorem test_B17_bmi : (after { boundary 0x1000 [0x2B, 0x02] [] with ccs := 0xD8 }).map
    (fun t => (t.pc, t.ccs)) = some (0x1004, 0xD8) := by decide
theorem test_B18_bge : (after { boundary 0x1000 [0x2C, 0x02] [] with ccs := 0xDA }).map
    (fun t => (t.pc, t.ccs)) = some (0x1004, 0xDA) := by decide
theorem test_B19_bge : (after { boundary 0x1000 [0x2C, 0x02] [] with ccs := 0xD8 }).map
    (fun t => (t.pc, t.ccs)) = some (0x1002, 0xD8) := by decide
theorem test_B20_blt : (after { boundary 0x1000 [0x2D, 0x02] [] with ccs := 0xD2 }).map
    (fun t => (t.pc, t.ccs)) = some (0x1004, 0xD2) := by decide
theorem test_B21_bgt : (after { boundary 0x1000 [0x2E, 0x02] [] with ccs := 0xDA }).map
    (fun t => (t.pc, t.ccs)) = some (0x1004, 0xDA) := by decide
theorem test_B22_bgt : (after { boundary 0x1000 [0x2E, 0x02] [] with ccs := 0xDE }).map
    (fun t => (t.pc, t.ccs)) = some (0x1002, 0xDE) := by decide
theorem test_B23_ble : (after { boundary 0x1000 [0x2F, 0x02] [] with ccs := 0xD4 }).map
    (fun t => (t.pc, t.ccs)) = some (0x1004, 0xD4) := by decide
theorem test_B24_ble : (after { boundary 0x1000 [0x2F, 0x02] [] with ccs := 0xD0 }).map
    (fun t => (t.pc, t.ccs)) = some (0x1002, 0xD0) := by decide
theorem test_S1_staa : (after { boundary 0x1000 [0x97, 0x40] [] with a := 0x00, ccs := 0xDB }).map
    (fun t => (t.ccs, t.pc, t.mem.read 0x0040, t.a)) = some (0xD5, 0x1002, 0x00, 0x00) := by decide
theorem test_S2_stab : (after { boundary 0x1000 [0xF7, 0x20, 0x00] [] with b := 0x7F, ccs := 0xD3 }).map
    (fun t => (t.ccs, t.pc, t.mem.read 0x2000, t.b)) = some (0xD1, 0x1003, 0x7F, 0x7F) := by decide
theorem test_S3_stab : (after { boundary 0x1000 [0xE7, 0xFF] [] with b := 0x80, x := 0xFF80, ccs := 0xD7 }).map
    (fun t => (t.ccs, t.pc, t.mem.read 0x007F, t.b, t.x)) = some (0xD9, 0x1002, 0x80, 0x80, 0xFF80) := by decide
theorem test_S4_staa : (after { boundary 0x1000 [0xA7, 0x00] [] with a := 0xFF, x := 0xFFFF, ccs := 0xC0 }).map
    (fun t => (t.ccs, t.pc, t.mem.read 0xFFFF, t.a, t.x)) = some (0xC8, 0x1002, 0xFF, 0xFF, 0xFFFF) := by decide
theorem test_J1_jmp : (after { boundary 0x1000 [0x7E, 0xAB, 0xCD] [] with ccs := 0xFF }).map
    (fun t => (t.ccs, t.pc)) = some (0xFF, 0xABCD) := by decide
theorem test_J2_jmp : (after { boundary 0x1000 [0x6E, 0x10] [] with x := 0x2000 }).map
    (fun t => (t.pc, t.x, t.ccs)) = some (0x2010, 0x2000, 0xD0) := by decide
theorem test_X1_nop : (after { boundary 0x1000 [0x01] [] with a := 0x12, b := 0x34, x := 0x5678, ccs := 0xEA }).map
    (fun t => (t.ccs, t.pc, t.a, t.b, t.x)) = some (0xEA, 0x1001, 0x12, 0x34, 0x5678) := by decide
theorem test_X2_tap : (after { boundary 0x1000 [0x06] [] with a := 0xFF, ccs := 0xC0 }).map
    (fun t => (t.ccs, t.pc, t.a)) = some (0xFF, 0x1001, 0xFF) := by decide
theorem test_X3_tap : (after { boundary 0x1000 [0x06] [] with a := 0x00, ccs := 0xFF }).map
    (fun t => (t.ccs, t.pc, t.a)) = some (0xC0, 0x1001, 0x00) := by decide
theorem test_X5_tpa : (after { boundary 0x1000 [0x07] [] with a := 0x00, ccs := 0xD5 }).map
    (fun t => (t.a, t.ccs, t.pc)) = some (0xD5, 0xD5, 0x1001) := by decide
theorem test_X6_tpa : (after { boundary 0x1000 [0x07] [] with a := 0x00, ccs := 0x15 }).map
    (fun t => (t.a, t.ccs, t.pc)) = some (0xD5, 0x15, 0x1001) := by decide
theorem test_X7_clv : (after { boundary 0x1000 [0x0A] [] with ccs := 0xFF }).map
    (fun t => (t.ccs, t.pc)) = some (0xFD, 0x1001) := by decide
theorem test_X8_sev : (after { boundary 0x1000 [0x0B] [] with ccs := 0xD0 }).map
    (fun t => (t.ccs, t.pc)) = some (0xD2, 0x1001) := by decide
theorem test_X9_clc : (after { boundary 0x1000 [0x0C] [] with ccs := 0xFF }).map
    (fun t => (t.ccs, t.pc)) = some (0xFE, 0x1001) := by decide
theorem test_X10_sec : (after { boundary 0x1000 [0x0D] [] with ccs := 0xD0 }).map
    (fun t => (t.ccs, t.pc)) = some (0xD1, 0x1001) := by decide
theorem test_X11_cli : (after { boundary 0x1000 [0x0E] [] with ccs := 0xFF }).map
    (fun t => (t.ccs, t.pc)) = some (0xEF, 0x1001) := by decide
theorem test_X12_sei : (after { boundary 0x1000 [0x0F] [] with ccs := 0xC0 }).map
    (fun t => (t.ccs, t.pc)) = some (0xD0, 0x1001) := by decide
theorem test_X13_sec : (after { boundary 0x1000 [0x0D] [] with ccs := 0xD1 }).map
    (fun t => (t.ccs, t.pc)) = some (0xD1, 0x1001) := by decide
theorem test_X14_inx : (after { boundary 0x1000 [0x08] [] with x := 0xFFFF, ccs := 0xD0 }).map
    (fun t => (t.x, t.ccs, t.pc)) = some (0x0000, 0xD4, 0x1001) := by decide
theorem test_X15_inx : (after { boundary 0x1000 [0x08] [] with x := 0x12FF, ccs := 0xDB }).map
    (fun t => (t.x, t.ccs, t.pc)) = some (0x1300, 0xDB, 0x1001) := by decide
theorem test_X17_dex : (after { boundary 0x1000 [0x09] [] with x := 0x0001, ccs := 0xD0 }).map
    (fun t => (t.x, t.ccs, t.pc)) = some (0x0000, 0xD4, 0x1001) := by decide
theorem test_X18_dex : (after { boundary 0x1000 [0x09] [] with x := 0x0000, ccs := 0xD4 }).map
    (fun t => (t.x, t.ccs, t.pc)) = some (0xFFFF, 0xD0, 0x1001) := by decide
theorem test_D1_unrecognised : (after { boundary 0x1000 [0x8C, 0x12, 0x34] [] with a := 0x01, b := 0x02, x := 0x0003, ccs := 0xFF }).map
    (fun t => (t.pc, t.a, t.b, t.x, t.ccs)) = some (0x1001, 0x01, 0x02, 0x0003, 0xFF) := by decide
theorem test_D3_unrecognised : (after { boundary 0x1000 [0x87, 0x55] [] with a := 0x11 }).map
    (fun t => (t.pc, t.a, t.ccs)) = some (0x1001, 0x11, 0xD0) := by decide

/-! ## Clock periods and the bus (95_test_vectors, Part 1 and the traces of Part 2) -/

theorem test_trace_S3_direct_read : busTrace 3 (boundary 0x1000 [0x96, 0x40] [(0x0040, 0x80)]) =
    [⟨0x1000, true, true, some 0x96⟩, ⟨0x1001, true, true, some 0x40⟩, ⟨0x0040, true, true, some 0x80⟩] := by decide
theorem test_trace_S5_indexed_store : busTrace 6 { boundary 0x1000 [0xE7, 0xFF] [] with b := 0x80, x := 0xFF80 } =
    [⟨0x1000, true, true, some 0xE7⟩, ⟨0x1001, true, true, some 0xFF⟩, ⟨0x1002, true, false, none⟩,
     ⟨0x1002, true, false, none⟩, ⟨0x007F, true, false, none⟩, ⟨0x007F, false, true, some 0x80⟩] := by decide
theorem test_trace_M4_extended_neg : busTrace 6 (boundary 0x1000 [0x70, 0x20, 0x00] [(0x2000, 0x05)]) =
    [⟨0x1000, true, true, some 0x70⟩, ⟨0x1001, true, true, some 0x20⟩, ⟨0x1002, true, true, some 0x00⟩,
     ⟨0x2000, true, true, some 0x05⟩, ⟨0x2000, true, false, none⟩, ⟨0x2000, false, true, some 0xFB⟩] := by decide
theorem test_trace_M25_extended_tst : busTrace 6 (boundary 0x1000 [0x7D, 0x20, 0x00] []) =
    [⟨0x1000, true, true, some 0x7D⟩, ⟨0x1001, true, true, some 0x20⟩, ⟨0x1002, true, true, some 0x00⟩,
     ⟨0x2000, true, true, some 0x00⟩, ⟨0x2000, true, false, none⟩, ⟨0x2000, true, false, none⟩] := by decide
theorem test_trace_J2_indexed_jump : busTrace 4 { boundary 0x1000 [0x6E, 0x10] [] with x := 0x2000 } =
    [⟨0x1000, true, true, some 0x6E⟩, ⟨0x1001, true, true, some 0x10⟩, ⟨0x1002, true, false, none⟩,
     ⟨0x1002, true, false, none⟩] := by decide
theorem test_trace_X18_dex : busTrace 4 { boundary 0x1000 [0x09] [] with ccs := 0xD4 } =
    [⟨0x1000, true, true, some 0x09⟩, ⟨0x1001, true, true, some 0x00⟩, ⟨0x0000, true, false, none⟩,
     ⟨0xFFFF, true, false, none⟩] := by decide

/-- A state as a reset pulse leaves it, with the vector `12 34`. -/
def resetWith (m : Memory) : State := State.atReset Config.launch m [] 0

theorem test_S1_reset_vector :
    let s := clocks 3 (resetWith [(0xFFFE, 0x12), (0xFFFF, 0x34)])
    (s.rst, s.pc, s.addr, s.tmp8, s.cycle, s.vma) = (3, 0x1234, 0x1234, 0x12, 0, true) := by decide
/-- T2, T3: the reset input sampled high at the edge ending the write period; the write is committed. -/
theorem test_T3_reset_in_write_period :
    let s := clock true (clocks 5 { boundary 0x1000 [0xE7, 0xFF] [] with b := 0x80, x := 0xFF80 })
    (s.rst, s.ccs, s.mem.read 0x007F) = (0, 0xD0, 0x80) := by decide
theorem test_T2_reset_before_write_period :
    let s := clock true (clocks 4 { boundary 0x1000 [0xE7, 0xFF] [] with b := 0x80, x := 0xFF80 })
    (s.rst, s.ccs, s.mem.read 0x007F) = (0, 0xD0, 0x00) := by decide

/-! ## The host's two questions, on two words -/

theorem test_fetch_word_two_bytes : (after (State.reset.withFetchWord 16 0x7F8B)).map (fun t => (t.a, t.pc)) =
    some (0x24, 0xA540) := by decide
theorem test_fetch_word_short : (after (State.reset.withFetchWord 8 0x7E)).map (fun t => (t.pc, t.rst)) =
    some (0x0000, 3) := by decide

/-! ## Witnesses: concrete states and operands that meet the hypotheses of each obligation -/

theorem witness_DecodeInvertsEncode : (Instr.unrecognised 0x8C).wf = true ∧ (Instr.jmpExt 0xFFFF).wf = true := by decide
theorem witness_EncodeInvertsDecode : decode [0x7E, 0xAB, 0xCD, 0x01] = .ok (.jmpExt 0xABCD, [0x01]) := rfl
theorem witness_SequencerReadsVectorThenEndsInstruction :
    (State.reset.rw = true ∧ State.reset.rst = 0) ∧ ((clocks 1 State.reset).rw = true ∧ (clocks 1 State.reset).rst = 1) ∧
    ((clocks 2 State.reset).rw = true ∧ (clocks 2 State.reset).rst = 2) := by decide
theorem witness_ResetPulseLoadsVector : State.reset.rst = 0 ∧ State.reset.rw = true ∧ State.reset.vma = false := by decide
theorem witness_ResetInputAbandonsInstruction :
    ({ boundary 0x1000 [0x01] [] with rstIn := [true, false] } : State).rstIn = true :: [false] := rfl
/-- The write period of a store: `RW = 0`, `VMA = 1`. -/
theorem witness_ResetInputAbandonsInstruction_write :
    (clocks 3 (boundary 0x1000 [0x97, 0x40] [])).rw = false ∧ (clocks 3 (boundary 0x1000 [0x97, 0x40] [])).vma = true := by decide
/-- The dead period before it: `RW = 1`, `VMA = 0`. -/
theorem witness_ResetInputAbandonsInstruction_no_write :
    (clocks 2 (boundary 0x1000 [0x97, 0x40] [])).rw = true ∧ (clocks 2 (boundary 0x1000 [0x97, 0x40] [])).vma = false := by decide
theorem witness_ResetStateThreeIsTerminal :
    (clocks 2 State.reset).rst = 2 ∧ (boundary 0x1000 [0x01] []).rst = 3 ∧
    (boundary 0x1000 [0x01] []).rstIn.head? ≠ some true ∧
    ({ boundary 0x1000 [0x01] [] with rstIn := [false, true] } : State).rstIn.head? ≠ some true := by decide
theorem witness_FetchLatchesOpcodeAndAdvances :
    (boundary 0xFFFF [0x01] []).rst = 3 ∧ (boundary 0xFFFF [0x01] []).cycle = 0 ∧ (boundary 0xFFFF [0x01] []).rw = true ∧
    (boundary 0xFFFF [0x01] []).vma = true := by decide
/-- A fetch that finds the direction at write. -/
theorem witness_FetchLatchesOpcodeAndAdvances_write :
    ({ boundary 0xFFFF [0x01] [] with rw := false } : State).rst = 3 ∧
    ({ boundary 0xFFFF [0x01] [] with rw := false } : State).cycle = 0 ∧
    ({ boundary 0xFFFF [0x01] [] with rw := false } : State).vma = true := by decide
theorem witness_StepRunsInstructionAtProgramCounter :
    (boundary 0x1000 [0x8B, 0x01, 0x02] []).atBoundary = true ∧ (boundary 0x1000 [0x8B, 0x01, 0x02] []).rstIn = [] ∧
    State.reset.atBoundary = false ∧ State.reset.rstIn = [] := by decide
theorem witness_StepRunsInstructionAtProgramCounter_decode :
    decode [streamByte (boundary 0x1000 [0x8B, 0x01, 0x02] []) 0, streamByte (boundary 0x1000 [0x8B, 0x01, 0x02] []) 1,
      streamByte (boundary 0x1000 [0x8B, 0x01, 0x02] []) 2] = .ok (.addaImm 0x01, [0x02]) := rfl
theorem witness_StepRunsInstructionAtProgramCounter_level :
    ({ State.reset with rstIn := [false] } : State).rstIn = false :: [] := rfl
theorem witness_EveryInstructionEndsAtBoundary : sequential .inx = true ∧ sequential (.bra 0xFE) = false := by decide
theorem witness_StepIsTheClockPeriodsOfTheInstruction :
    (boundary 0x1000 [0x60, 0x01] []).atBoundary = true ∧ (boundary 0x1000 [0x60, 0x01] []).rstIn = [] ∧
    6 < (boundary 0x1000 [0x60, 0x01] []).nextInstr.periods := by decide
theorem witness_StepKeepsInvariant : State.reset.Inv ∧ step State.reset = .next (clock false State.reset) :=
  ⟨by decide, rfl⟩
/-- The invariant in the middle of an instruction, in a dead period and in a write period. -/
theorem witness_StepKeepsInvariant_mid_instruction :
    (clocks 5 (boundary 0x1000 [0x60, 0x01] [])).Inv ∧ (clocks 6 (boundary 0x1000 [0x60, 0x01] [])).Inv :=
  ⟨⟨by decide, by decide, by decide, by decide⟩, ⟨by decide, by decide, by decide, by decide⟩⟩
theorem witness_InvariantHoldsAtReset : Memory.wf [(0xFFFE, 0x12), (0xFFFF, 0x34)] = true := by decide
theorem witness_StackPointerNeverChanges : State.reset.rstIn.head? ≠ some true := by decide
theorem witness_OnlyStoreAddressChangesInMemory :
    State.reset.mem.wf = true ∧ storeAddress State.reset (.staaDir 0xFF) ≠ some 0x0100 ∧
    storeAddress State.reset (.tstExt 0x2000) ≠ some 0x2000 := by decide
theorem witness_FlagsHoldOutsideAluCycles :
    State.reset.rst ≠ 3 ∧ (boundary 0x1000 [0x8B] []).cycle = 0 ∧
    aluCycle (dispatch 0x8B) 0 1 = false ∧ aluCycle (dispatch 0x8B) 0 2 = true := by decide
theorem witness_ScratchCarriesNothingAcrossInstructions :
    (boundary 0x1000 [0xBB, 0x20, 0x00] []).atBoundary = true ∧ (boundary 0x1000 [0xBB, 0x20, 0x00] []).rstIn = [] := by decide
theorem witness_DeadCycleTouchesNoMemory :
    (State.reset.Inv ∧ State.reset.vma = false) ∧
    ((clocks 5 (boundary 0x1000 [0x60, 0x01] [])).Inv ∧ (clocks 5 (boundary 0x1000 [0x60, 0x01] [])).vma = false) :=
  ⟨by decide, ⟨by decide, by decide, by decide, by decide⟩, by decide⟩
theorem witness_InterruptMaskMasksNothing : Instr.tap ≠ Instr.tpa := by decide
theorem witness_OnlyDataInLatchRefusesWrite : Reg.PC ≠ Reg.DIN ∧ Reg.TMP8 ≠ Reg.PC ∧ Reg.TMP8 ≠ Reg.DIN := by decide
/-- Canonical memory, for every memory form of `modifies` and for the stores; the address wraps. -/
theorem witness_modifies : (boundary 0x1000 [] [(0x0000, 0x0F)]).mem.wf = true ∧
    (MemOperand.idx 0xFF).ea { boundary 0x1000 [] [] with x := 0xFF01 } = 0x0000 ∧
    (0x0001 : Word) ≠ (MemOperand.idx 0xFF).ea { boundary 0x1000 [] [] with x := 0xFF01 } := by decide
theorem witness_StoreWritesAccumulatorAndSetsFlags : (boundary 0x1000 [0xB7, 0xFF, 0xFF] []).mem.wf = true ∧
    (0x0000 : Word) ≠ (StoreOperand.ext 0xFFFF).ea (boundary 0x1000 [] []) := by decide
theorem witness_StoreIsSeenByTheNextFetch :
    (boundary 0x1000 [0xB7, 0x10, 0x03] []).mem.wf = true ∧ (boundary 0x1000 [0xB7, 0x10, 0x03] []).rst = 3 ∧
    (boundary 0x1000 [0xB7, 0x10, 0x03] []).rstIn = [] ∧
    (StoreOperand.ext 0x1003).ea (boundary 0x1000 [0xB7, 0x10, 0x03] []) =
      (boundary 0x1000 [0xB7, 0x10, 0x03] []).pc + (StoreOperand.ext 0x1003).length := by decide
/-- A read-modify-write at the next opcode's address, indexed. -/
theorem witness_StoreIsSeenByTheNextFetch_rmw :
    let s : State := { boundary 0x1000 [0x6C, 0xFF, 0x00] [] with x := 0x0F03 }
    s.mem.wf = true ∧ s.rst = 3 ∧ s.rstIn = [] ∧ (MemOperand.idx 0xFF).ea s = s.pc + memLength (.idx 0xFF) := by decide
theorem witness_BranchAfterCompareDecidesOrder :
    (operand (boundary 0x1000 [] []) (.imm 0x80)).toInt < (boundary 0x1000 [] []).a.toInt ∧
    (boundary 0x1000 [] []).a.toNat < (operand (boundary 0x1000 [] []) (.imm 0x80)).toNat := by decide
/-- Three NOPs across the top of the address space. -/
theorem witness_NopsChangeOnlyTheProgramCounter : (boundary 0xFFFE [0x01, 0x01, 0x01] []).atBoundary = true ∧
    ∀ k, k < 3 → streamByte (boundary 0xFFFE [0x01, 0x01, 0x01] []) k = 0x01 := by decide
theorem witness_UnrecognisedOpcodeIsSkipped :
    (boundary 0xFFFF [0xFF] []).atBoundary = true ∧ (boundary 0xFFFF [0xFF] []).rstIn = [] ∧
    unrecognisedOpcodes.contains (streamByte (boundary 0xFFFF [0xFF] []) 0) = true := by decide
theorem witness_DirectReadTakesThreePeriodsAndTwoReads : (boundary 0x1000 [0xDB, 0xFF] []).atBoundary = true ∧
    dispatch (streamByte (boundary 0x1000 [0xDB, 0xFF] []) 0) = .aluRead .add ∧
    (streamByte (boundary 0x1000 [0xDB, 0xFF] []) 0).extractLsb' 4 2 = 1 := by decide
theorem witness_BranchAlwaysToItselfLoops :
    (boundary 0x1234 [0x20, 0xFE] []).atBoundary = true ∧ (boundary 0x1234 [0x20, 0xFE] []).rstIn = [] ∧
    streamByte (boundary 0x1234 [0x20, 0xFE] []) 0 = 0x20 ∧ (boundary 0x1234 [0x20, 0xFE] []).pc = 0x1234 ∧
    streamByte (boundary 0x1234 [0x20, 0xFE] []) 1 = 0xFE := by decide
theorem witness_IndexedStoreReadsOnceWritesOnce :
    (boundary 0x1000 [0xA7, 0xFF] []).atBoundary = true ∧ streamByte (boundary 0x1000 [0xA7, 0xFF] []) 0 = 0xA7 ∧
    (boundary 0x1000 [0xE7, 0xFF] []).atBoundary = true ∧ streamByte (boundary 0x1000 [0xE7, 0xFF] []) 0 = 0xE7 := by decide
theorem witness_ExtendedJumpReadsTwoBytes :
    (boundary 0x1000 [0x7E, 0xAB, 0xCD] []).atBoundary = true ∧ streamByte (boundary 0x1000 [0x7E, 0xAB, 0xCD] []) 0 = 0x7E := by decide
theorem witness_AluReadBusTraces :
    ∀ op ∈ ([0x8B, 0x9B, 0xAB, 0xBB] : List Byte), (boundary 0x1000 [op, 0xFF] []).atBoundary = true ∧
      dispatch (streamByte (boundary 0x1000 [op, 0xFF] []) 0) = .aluRead .add := by decide
theorem witness_AluReadBusTraces_modes :
    ([0x8B, 0x9B, 0xAB, 0xBB] : List Byte).map (fun op => (streamByte (boundary 0x1000 [op] []) 0).extractLsb' 4 2) =
      [0, 1, 2, 3] := by decide
theorem witness_ReadModifyWriteBusTraces :
    (boundary 0x1000 [0x6D, 0xFF] []).atBoundary = true ∧
    dispatch (streamByte (boundary 0x1000 [0x6D, 0xFF] []) 0) = .readModifyWrite .tst ∧
    (streamByte (boundary 0x1000 [0x6D, 0xFF] []) 0).extractLsb' 4 2 = 2 ∧
    (boundary 0x1000 [0x70, 0xFF] []).atBoundary = true ∧
    dispatch (streamByte (boundary 0x1000 [0x70, 0xFF] []) 0) = .readModifyWrite .neg ∧
    (streamByte (boundary 0x1000 [0x70, 0xFF] []) 0).extractLsb' 4 2 = 3 := by decide
theorem witness_IndexStepShowsOldThenNewIndex :
    (boundary 0x1000 [0x08] []).atBoundary = true ∧ streamByte (boundary 0x1000 [0x08] []) 0 = 0x08 ∧
    (boundary 0x1000 [0x09] []).atBoundary = true ∧ streamByte (boundary 0x1000 [0x09] []) 0 = 0x09 := by decide
/-- A state for each clause: a one-byte opcode of each kind, a branch, the stores and jumps in each mode. -/
theorem witness_OneByteBranchStoreJumpBusTraces :
    (∀ op ∈ ([0x01, 0x06, 0x07, 0x0A, 0x8C, 0x40, 0x5F, 0x2F, 0x97, 0xE7, 0xF7, 0x6E, 0x7E] : List Byte),
      (boundary 0x1000 [op, 0xFF] []).atBoundary = true ∧ streamByte (boundary 0x1000 [op, 0xFF] []) 0 = op) ∧
    ([0x01, 0x06, 0x07, 0x0A, 0x8C, 0x40, 0x5F, 0x2F] : List Byte).map dispatch =
      [.noOperation, .transferTap, .transferTpa, .flag, .unrecognised, .readModifyWrite .neg, .readModifyWrite .clr, .branch] ∧
    ([0x97, 0xE7, 0xF7, 0x6E, 0x7E] : List Byte).map dispatch = [.store, .store, .store, .jump, .jump] ∧
    ([0x40, 0x5F, 0x97, 0xE7, 0xF7, 0x6E, 0x7E] : List Byte).map (fun op => op.extractLsb' 4 2) = [0, 1, 1, 2, 3, 2, 3] := by decide

end Sys2Proof.Tests
end

section
/-! The 10_state family. First what a handler period does, said once against the tables of Safety.lean
(`Handler.Follows`); the bus part of the invariant and the hold of the flag vector are both read off it. -/

namespace Sys2Proof.Machine

open Sys2Proof.Claims

/-! ## A handler period against the cycle tables (40 R140, 20_memory R64) -/

/-- `t` is a period of `h` after `s`: it ends the instruction, or it goes on to a cycle that `h` has, with the
bus levels of that cycle; and outside the ALU cycle it holds the flags. -/
structure Handler.Follows (h : Handler) (s t : State) : Prop where
  bus : (t.cycle = 0 ∧ t.addr = t.pc ∧ t.rw = true ∧ t.vma = true) ∨
    (t.cycle = s.cycle + 1 ∧ s.cycle.toNat < h.endCycle s.mode.toNat ∧
      t.vma = !h.deadCycle s.mode.toNat (s.cycle.toNat + 1) ∧
      (s.rw = !h.writeCycle s.mode.toNat s.cycle.toNat → t.rw = !h.writeCycle s.mode.toNat (s.cycle.toNat + 1)))
  flags : aluCycle h s.mode.toNat s.cycle.toNat = false → t.ccs = s.ccs

/-- A period that ends the instruction, without an ALU function unless this is the ALU cycle. -/
theorem Handler.Follows.ended {h : Handler} {s u : State} {p : Word}
    (flags : aluCycle h s.mode.toNat s.cycle.toNat = false → u.ccs = s.ccs) : h.Follows s (u.endInstr p) where
  bus := .inl ⟨rfl, rfl, rfl, rfl⟩
  flags := flags

/-- A period that fires the ALU and ends the instruction. -/
theorem Handler.Follows.fired {h : Handler} {s u : State} {p : Word} {m k : Nat} (hm : s.mode.toNat = m)
    (hk : s.cycle.toNat = k) (alu : aluCycle h m k = true) : h.Follows s (u.endInstr p) :=
  .ended (by simp [hm, hk, alu])

/-- A period in cycle `k` of mode `m` that goes on to cycle `k + 1`. -/
theorem Handler.Follows.advanced {h : Handler} {s t : State} {m k : Nat} (hm : s.mode.toNat = m)
    (hk : s.cycle.toNat = k) (cycle : t.cycle = s.cycle + 1) (lt : decide (k < h.endCycle m) = true)
    (vma : t.vma = !h.deadCycle m (k + 1)) (rw : s.rw = !h.writeCycle m k → t.rw = !h.writeCycle m (k + 1))
    (flags : aluCycle h m k = false → t.ccs = s.ccs) : h.Follows s t where
  bus := .inr (by rw [hm, hk]; exact ⟨cycle, of_decide_eq_true lt, vma, rw⟩)
  flags := by rw [hm, hk]; exact flags

/-! Each handler's cycle table, row by row: the rows that go on, those that fire the ALU, those that only end. -/

theorem oneCyclePeriod_follows {h : Handler} {fire : State → State} {s : State}
    (flags : aluCycle h s.mode.toNat 1 = false → (fire s).ccs = s.ccs) : h.Follows s (oneCyclePeriod fire s) := by
  unfold oneCyclePeriod
  split
  case isTrue hc => exact .ended (by rw [hc]; exact flags)
  case isFalse => exact .ended fun _ => rfl

theorem indexPeriod_follows (alu : Alu) (s : State) : Handler.indexStep.Follows s (indexPeriod alu s) := by
  unfold indexPeriod
  split
  case h_1 hk | h_2 hk => exact .advanced rfl hk rfl rfl rfl id fun _ => rfl
  case h_3 hk => exact .fired rfl hk rfl
  case h_4 => exact .ended fun _ => rfl

theorem branchPeriod_follows (s : State) : Handler.branch.Follows s (branchPeriod s) := by
  unfold branchPeriod
  split
  case h_1 hk => exact .advanced rfl hk rfl rfl rfl (fun _ => rfl) fun _ => rfl
  case h_2 hk => exact .advanced rfl hk rfl rfl rfl id fun _ => rfl
  case h_3 | h_4 => exact .ended fun _ => rfl

theorem jumpPeriod_follows (s : State) : Handler.jump.Follows s (jumpPeriod s) := by
  unfold jumpPeriod
  split
  case h_1 hm hk | h_4 hm hk => exact .advanced hm hk rfl rfl rfl (fun _ => rfl) fun _ => rfl
  case h_2 hm hk => exact .advanced hm hk rfl rfl rfl id fun _ => rfl
  case h_3 | h_5 | h_6 => exact .ended fun _ => rfl

theorem readPeriod_follows (alu : Alu) (op : ReadOp) (s : State) :
    (Handler.aluRead op).Follows s (readPeriod alu op s) := by
  unfold readPeriod
  extract_lets acc fire
  split
  case h_1 hm hk | h_3 hm hk | h_5 hm hk | h_7 hm hk | h_9 hm hk | h_10 hm hk =>
    exact .advanced hm hk rfl rfl rfl (fun _ => rfl) fun _ => rfl
  case h_6 hm hk => exact .advanced hm hk rfl rfl rfl id fun _ => rfl
  case h_2 hm hk | h_4 hm hk | h_8 hm hk | h_11 hm hk => exact .fired hm hk rfl
  case h_12 => exact .ended fun _ => rfl

theorem storePeriod_follows (alu : Alu) (s : State) : Handler.store.Follows s (storePeriod alu s) := by
  unfold storePeriod
  extract_lets acc
  split
  case h_1 hm hk | h_2 hm hk | h_4 hm hk | h_6 hm hk | h_7 hm hk | h_9 hm hk | h_10 hm hk | h_11 hm hk =>
    exact .advanced hm hk rfl rfl rfl (fun _ => rfl) fun _ => rfl
  case h_5 hm hk => exact .advanced hm hk rfl rfl rfl id fun _ => rfl
  case h_3 hm hk | h_8 hm hk | h_12 hm hk => exact .fired hm hk rfl
  case h_13 => exact .ended fun _ => rfl

theorem rmwPeriod_follows (alu : Alu) (op : RmwOp) (s : State) :
    (Handler.readModifyWrite op).Follows s (rmwPeriod alu op s) := by
  unfold rmwPeriod
  split
  case h_1 hm hk | h_2 hm hk => exact .fired hm hk rfl
  case h_3 hm hk | h_5 hm hk | h_7 hm hk | h_9 hm hk | h_10 hm hk | h_12 hm hk =>
    cases op <;> exact .advanced hm hk rfl rfl rfl (fun _ => rfl) fun _ => rfl
  case h_4 hm hk => cases op <;> exact .advanced hm hk rfl rfl rfl id fun _ => rfl
  case h_6 hm hk | h_11 hm hk => cases op <;> exact .advanced hm hk rfl rfl rfl (fun _ => rfl) nofun
  case h_8 | h_13 | h_14 => exact .ended fun _ => rfl

/-- Every period of the dispatcher follows the tables of the handler that `INSTR` selects (40 R127). -/
theorem handlerPeriod_follows (alu : Alu) (s : State) : (dispatch s.instr).Follows s (handlerPeriod alu s) := by
  unfold handlerPeriod
  split
  case h_1 h | h_11 h => rw [h]; exact oneCyclePeriod_follows fun _ => rfl
  case h_2 h | h_3 h | h_5 h => rw [h]; exact oneCyclePeriod_follows nofun
  case h_4 h => rw [h]; exact indexPeriod_follows alu s
  case h_6 h => rw [h]; exact branchPeriod_follows s
  case h_7 op h => rw [h]; exact rmwPeriod_follows alu op s
  case h_8 h => rw [h]; exact jumpPeriod_follows s
  case h_9 op h => rw [h]; exact readPeriod_follows alu op s
  case h_10 h => rw [h]; exact storePeriod_follows alu s

/-- The reset sequencer writes no flag (70 R361 to R363). -/
theorem sequencerPeriod_ccs (s : State) : (sequencerPeriod s).ccs = s.ccs := by
  unfold sequencerPeriod
  split <;> rfl

/-! ## The invariant -/

/-- No handler runs long enough for the cycle counter to wrap (40 R140). -/
theorem Handler.endCycle_le (h : Handler) (mode : Nat) : h.endCycle mode ≤ 6 := by
  cases h with
  | readModifyWrite | jump | aluRead | store => simp only [endCycle]; split_ifs <;> omega
  | _ => exact Nat.le_of_ble_eq_true rfl

/-- Cycle 1 of every handler exists and is a valid read (92 D11). -/
theorem Handler.cycle_one (h : Handler) (mode : Nat) :
    1 ≤ h.endCycle mode ∧ h.deadCycle mode 1 = false ∧ h.writeCycle mode 1 = false := by
  cases h with
  | readModifyWrite | jump | aluRead | store => simp [endCycle, deadCycle, writeCycle]; split_ifs <;> omega
  | _ => exact ⟨Nat.le_of_ble_eq_true rfl, rfl, rfl⟩

/-- The invariant at an instruction boundary. -/
theorem State.Inv.of_boundary {s : State} (mem : s.mem.wf = true) (b : s.atBoundary = true) : s.Inv := by
  obtain ⟨hr, hc, ha, hw, hv⟩ := s.atBoundary_iff.mp b
  exact ⟨mem, fun h => absurd hr h, fun _ _ => ⟨ha, hw, hv⟩, fun _ h => absurd hc h⟩

/-- The invariant after a reset edge. -/
theorem State.Inv.atReset {l : Launch} {m : Memory} {ins : List Bool} {n : Nat} (mem : m.wf = true) :
    (State.atReset l m ins n).Inv :=
  ⟨mem, fun _ => ⟨rfl, rfl, rfl⟩, nofun, nofun⟩

/-- The invariant in a later cycle of a handler. -/
theorem State.Inv.of_cycle {s : State} {k : Nat} (mem : s.mem.wf = true) (hr : s.rst = 3)
    (hk : s.cycle.toNat = k + 1) (le : k + 1 ≤ (dispatch s.instr).endCycle s.mode.toNat)
    (vma : s.vma = !(dispatch s.instr).deadCycle s.mode.toNat (k + 1))
    (rw : s.rw = !(dispatch s.instr).writeCycle s.mode.toNat (k + 1)) : s.Inv := by
  refine ⟨mem, fun h => absurd hr h, fun _ hc => ?_, fun _ _ => by rw [hk]; exact ⟨le, vma, rw⟩⟩
  simp [hc] at hk

/-- States 0 and 1 of the sequencer are valid reads, state 2 ends at a boundary (70 R361 to R363). -/
theorem State.Inv.clock_sequencer {s : State} (inv : s.Inv) (hr : s.rst ≠ 3) : (clock false s).Inv := by
  obtain ⟨hm, hs, -, -⟩ := inv
  obtain ⟨hc, -, -⟩ := hs hr
  have mem := State.wf_committedMem hm
  rw [Machine.clock_sequencer hr]
  unfold sequencerPeriod
  split
  case h_1 | h_2 => exact ⟨mem, fun _ => ⟨hc, rfl, rfl⟩, nofun, nofun⟩
  case h_3 => exact .of_boundary mem ((State.atBoundary_iff _).mpr ⟨rfl, rfl, rfl, rfl, rfl⟩)

/-- The fetch leads to cycle 1 of the handler its opcode selects. -/
theorem State.Inv.clock_fetch {s : State} (inv : s.Inv) (hr : s.rst = 3) (hc : s.cycle = 0) :
    (clock false s).Inv := by
  rw [Machine.clock_fetch hr hc]
  obtain ⟨le, dead, write⟩ := Handler.cycle_one (dispatch s.din) (s.din.extractLsb' 4 2).toNat
  exact .of_cycle (k := 0) (State.wf_committedMem inv.1) hr (by simp [fetchPeriod, hc]) le
    (congrArg not dead).symm (congrArg not write).symm

/-- A handler period leads to a boundary or to the handler's next cycle. -/
theorem State.Inv.clock_handler {s : State} (inv : s.Inv) (hr : s.rst = 3) (hc : s.cycle ≠ 0) :
    (clock false s).Inv := by
  obtain ⟨hm, -, -, ht⟩ := inv
  obtain ⟨-, -, hw⟩ := ht hr hc
  have mem := State.wf_committedMem hm
  have rst : (handlerPeriod machineAlu s).rst = 3 := by rw [handlerPeriod_rst, hr]
  rw [Machine.clock_handler hr hc]
  obtain ⟨hc', ha, hw', hv⟩ | ⟨hc', hlt, hv, hw'⟩ := (handlerPeriod_follows machineAlu s).bus
  · exact .of_boundary mem ((State.atBoundary_iff _).mpr ⟨rst, hc', ha, hw', hv⟩)
  · have hle := (dispatch s.instr).endCycle_le s.mode.toNat
    have hk : (s.cycle + 1).toNat = s.cycle.toNat + 1 := BitVec.toNat_add_of_lt (by simp; omega)
    refine .of_cycle (k := s.cycle.toNat) mem rst ((congrArg _ hc').trans hk) ?_ ?_ ?_ <;>
      simp only [State.mode, State.setMem_instr, handlerPeriod_instr]
    exacts [hlt, hv, hw' hw]

/-- Every clock period keeps the invariant, whatever the reset input. -/
theorem State.Inv.clock {s : State} (level : Bool) (inv : s.Inv) : (Machine.clock level s).Inv := by
  cases level with
  | true => exact .atReset (State.wf_committedMem inv.1)
  | false =>
    by_cases hr : s.rst = 3
    · by_cases hc : s.cycle = 0
      · exact inv.clock_fetch hr hc
      · exact inv.clock_handler hr hc
    · exact inv.clock_sequencer hr

/-- The invariant after a step that runs an instruction. -/
theorem State.Inv.effect {s : State} (k : Action) (mem : s.mem.wf = true) (hr : s.rst = 3) : (k.effect s).Inv :=
  .of_boundary (by rw [Action.effect_mem]; exact k.wf_nextMem mem)
    ((State.atBoundary_iff _).mpr ⟨by rw [Action.effect_rst, hr], by simp⟩)

/-! ## What an instruction leaves of `X` and takes from the scratch registers -/

/-- Only INX and DEX have an effect on `X`. -/
theorem nextX_action_of_ne {i : Instr} (hinx : i ≠ .inx) (hdex : i ≠ .dex) (s : State) : i.action.nextX s = s.x := by
  cases i with
  | inx => exact absurd rfl hinx
  | dex => exact absurd rfl hdex
  | _ => rfl

/-- `s` with other contents of the scratch registers and of `DOUT` (10_state R44). -/
def State.withScratch (s : State) (v8 : Byte) (v16 : Word) (d : Byte) : State :=
  { s with tmp8 := v8, tmp16 := v16, dout := d }

section Scratch

variable (s : State) (v8 d : Byte) (v16 p : Word)

theorem State.endInstr_withScratch : (s.withScratch v8 v16 d).endInstr p = (s.endInstr p).withScratch v8 v16 d := rfl

theorem value_withScratch (o : ReadOperand) : o.value (s.withScratch v8 v16 d) = o.value s := by cases o <;> rfl

theorem latch_withScratch (o : ReadOperand) :
    let t := o.latch (s.withScratch v8 v16 d)
    t = (o.latch s).withScratch t.tmp8 t.tmp16 t.dout := by cases o <;> rfl

theorem readFire_withScratch (alu : Alu) (op : ReadOp) (acc : Acc) (v : Byte) :
    readFire alu op acc v (s.withScratch v8 v16 d) = (readFire alu op acc v s).withScratch v8 v16 d := by
  cases acc <;> unfold readFire <;> split <;> rfl

theorem rmwAccFire_withScratch (alu : Alu) (op : RmwOp) (acc : Acc) :
    rmwAccFire alu op acc (s.withScratch v8 v16 d) = (rmwAccFire alu op acc s).withScratch v8 v16 d := by
  cases acc <;> unfold rmwAccFire <;> split <;> rfl

/-- An effect takes nothing from the scratch registers and `DOUT`. -/
theorem Action.effect_withScratch (k : Action) :
    let t := k.effect (s.withScratch v8 v16 d)
    t = (k.effect s).withScratch t.tmp8 t.tmp16 t.dout := by
  cases k with
  | jump o | rmwMem _ o | store _ o => cases o <;> rfl
  | rmwAcc op acc =>
    simp only [effect, rmwAccEffect, rmwAccFire_withScratch, State.endInstr_withScratch]
    rfl
  | read op acc o =>
    simp only [effect, readEffect, value_withScratch]
    rw [latch_withScratch, readFire_withScratch, State.endInstr_withScratch]
    rfl
  | _ => rfl

end Scratch

/-! ## The register file -/

theorem toNat_zext16_loByte (v : Word) : (zext16 (loByte v)).toNat = v.toNat % 256 := by
  simp [zext16, loByte]
  omega

/-- A register write leaves every other writable register. -/
theorem readReg_of_writeReg_ne {s t : State} {r q : Reg} {v : Word} (h : s.writeReg r v = .next t) (hq : q ≠ r)
    (hd : q ≠ .DIN) : t.readReg q = s.readReg q := by
  cases r <;> cases h <;> cases q <;> simp_all [State.readReg]

end Sys2Proof.Machine

namespace Sys2Proof.Proofs

open Sys2Proof.Machine

/-- Settles O16: the cases of a step are a reset edge, a clock period and a whole instruction. -/
theorem stepKeepsInvariant : Obligations.StepKeepsInvariant := by
  intro s t inv hstep
  obtain ⟨level, rest, -, h⟩ | ⟨-, hb, h⟩ | ⟨-, -, h⟩ := step_cases s
  · cases h.symm.trans hstep
    exact State.Inv.clock level (s := { s with rstIn := rest }) inv
  · rw [exec_action] at h
    cases h.symm.trans hstep
    exact .effect _ inv.1 ((State.atBoundary_iff s).mp hb).1
  · cases h.symm.trans hstep
    exact inv.clock false

/-- Settles O17: the reset state is a first period of the sequencer. -/
theorem invariantHoldsAtReset : Obligations.InvariantHoldsAtReset :=
  ⟨.atReset State.reset_mem_wf, fun _ _ _ _ mem => .atReset mem⟩

/-- Settles O6, by the definition of the reset state. -/
theorem resetStateIsReadyForSequencer : Obligations.ResetStateIsReadyForSequencer :=
  fun _ _ _ _ => ⟨rfl, rfl, rfl, rfl, rfl, rfl, rfl⟩

/-- Settles O9: the step takes the high level, so its next state is that of a reset edge. -/
theorem resetInputAbandonsInstruction : Obligations.ResetInputAbandonsInstruction := by
  intro s rest h
  refine ⟨_, step_level h, rfl, rfl, rfl, rfl, rfl, rfl, rfl, fun hw hv => ?_, fun hq => ?_⟩
  · exact State.committedMem_of_write (s := { s with rstIn := rest }) hw hv
  · obtain hw | hv := hq
    · exact State.committedMem_of_read (s := { s with rstIn := rest }) hw
    · exact State.committedMem_of_dead (s := { s with rstIn := rest }) hv

/-- Settles O18: neither a clock period nor an instruction's effect writes `SP`. -/
theorem stackPointerNeverChanges : Obligations.StackPointerNeverChanges := by
  intro s hlow
  obtain ⟨level, rest, hin, h⟩ | ⟨-, -, h⟩ | ⟨-, -, h⟩ := step_cases s
  · cases level with
    | true => simp [hin] at hlow
    | false => exact ⟨_, h, clock_sp _⟩
  · exact ⟨_, h.trans (exec_action _ _), Action.effect_sp _ _⟩
  · exact ⟨_, h, clock_sp s⟩

/-- Settles O19, from the field law `Action.effect_x`. -/
theorem indexRegisterOnlyStepsByOne : Obligations.IndexRegisterOnlyStepsByOne := by
  intro i s
  refine ⟨_, exec_action i s, ?_⟩
  rw [Action.effect_x]
  refine ⟨?_, ?_, fun hinx hdex => nextX_action_of_ne hinx hdex s⟩ <;> rintro rfl <;> rfl

/-- Settles O21: the sequencer and the fetch write no flag, and a handler period follows its table. -/
theorem flagsHoldOutsideAluCycles : Obligations.FlagsHoldOutsideAluCycles := by
  intro s h
  by_cases hr : s.rst = 3
  · by_cases hc : s.cycle = 0
    · rw [clock_fetch hr hc]; rfl
    · rw [clock_handler hr hc]
      obtain h | h | h := h
      · exact absurd hr h
      · exact absurd h hc
      · exact (handlerPeriod_follows machineAlu s).flags h
  · rw [clock_sequencer hr]; exact sequencerPeriod_ccs s

/-- Settles O22: both steps run the same instruction, whose effect takes nothing from the scratch registers. -/
theorem scratchCarriesNothingAcrossInstructions : Obligations.ScratchCarriesNothingAcrossInstructions := by
  intro s v8 op d v16 hb hin
  let s' : State := { s with tmp8 := v8, tmp16 := v16, instr := op, dout := d }
  exact ⟨_, _, (step_boundary hin hb).trans (exec_action _ _),
    (step_boundary (s := s') hin hb).trans (exec_action _ _),
    Action.effect_withScratch (s.setInstr (s.mem.read s.pc)) v8 d v16 s.nextInstr.action⟩

/-- Settles O25: `DIN` is the one refusal, and a write is of a byte or of a word. -/
theorem onlyDataInLatchRefusesWrite : Obligations.OnlyDataInLatchRefusesWrite := by
  intro s r v
  refine ⟨by rintro rfl; rfl, fun hr => ?_⟩
  cases r with
  | DIN => exact absurd rfl hr
  | A | B | INSTR | TMP8 =>
    exact ⟨_, rfl, toNat_zext16_loByte v, fun _ => readReg_of_writeReg_ne (v := v) rfl, rfl, rfl⟩
  | X | SP | PC | TMP16 =>
    exact ⟨_, rfl, (Nat.mod_eq_of_lt v.isLt).symm, fun _ => readReg_of_writeReg_ne (v := v) rfl, rfl, rfl⟩

/-- Settles O26, from the byte halves of a joined word. -/
theorem byteAliasesShareTheParent : Obligations.ByteAliasesShareTheParent := by
  intro w v
  refine ⟨by simp [setHiByte], by simp [setHiByte], by simp [setLoByte], by simp [setLoByte], ?_⟩
  have := w.isLt
  simp only [hiByte, loByte, BitVec.toNat_ofNat]
  omega

end Sys2Proof.Proofs
end

section
/-! The 20_memory family: what a dead period does not look at (20_memory R64), and the fetch after a store (R77). -/

namespace Sys2Proof.Machine

open Sys2Proof.Claims

/-! ## A dead period looks at no memory byte (20_memory R64)

A row of a cycle table that reads `Din` stands in a live cycle; every other row is the same over any memory. -/

section DeadPeriod

variable {s : State} (m : Memory) (alu : Alu)

@[simp] theorem State.setMem_mode : (s.setMem m).mode = s.mode := rfl

theorem indexPeriod_setMem : indexPeriod alu (s.setMem m) = (indexPeriod alu s).setMem m := by
  simp only [indexPeriod, State.setMem_cycle]
  split <;> rfl

theorem jumpPeriod_setMem (dead : Handler.jump.deadCycle s.mode.toNat s.cycle.toNat = true) :
    jumpPeriod (s.setMem m) = (jumpPeriod s).setMem m := by
  simp only [jumpPeriod, State.setMem_mode, State.setMem_cycle]
  split
  case h_1 hm hk | h_4 hm hk | h_5 hm hk => simp [hm, hk, Handler.deadCycle] at dead
  case h_2 | h_3 | h_6 => rfl

theorem readPeriod_setMem (op : ReadOp) (dead : (Handler.aluRead op).deadCycle s.mode.toNat s.cycle.toNat = true) :
    readPeriod alu op (s.setMem m) = (readPeriod alu op s).setMem m := by
  simp only [readPeriod, State.setMem_mode, State.setMem_cycle]
  split
  case h_1 hm hk | h_2 hm hk | h_3 hm hk | h_4 hm hk | h_5 hm hk | h_8 hm hk | h_9 hm hk | h_10 hm hk | h_11 hm hk =>
    simp [hm, hk, Handler.deadCycle] at dead
  case h_6 | h_7 | h_12 => rfl

theorem storePeriod_setMem (dead : Handler.store.deadCycle s.mode.toNat s.cycle.toNat = true) :
    storePeriod alu (s.setMem m) = (storePeriod alu s).setMem m := by
  simp only [storePeriod, State.setMem_mode, State.setMem_cycle]
  split
  case h_1 hm hk | h_3 hm hk | h_4 hm hk | h_8 hm hk | h_9 hm hk | h_10 hm hk | h_12 hm hk =>
    simp [hm, hk, Handler.deadCycle] at dead
  case h_2 | h_5 | h_6 | h_7 | h_11 | h_13 => rfl

theorem rmwPeriod_setMem (op : RmwOp)
    (dead : (Handler.readModifyWrite op).deadCycle s.mode.toNat s.cycle.toNat = true) :
    rmwPeriod alu op (s.setMem m) = (rmwPeriod alu op s).setMem m := by
  simp only [rmwPeriod, State.setMem_mode, State.setMem_cycle]
  split
  case h_1 hm hk | h_2 hm hk | h_3 hm hk | h_6 hm hk | h_9 hm hk | h_10 hm hk | h_11 hm hk =>
    simp [hm, hk, Handler.deadCycle] at dead
  case h_4 | h_5 | h_7 | h_8 | h_12 | h_13 | h_14 => rfl

/-- A handler period in a cycle that its table calls dead is the same over any memory. -/
theorem handlerPeriod_setMem (dead : (dispatch s.instr).deadCycle s.mode.toNat s.cycle.toNat = true) :
    handlerPeriod alu (s.setMem m) = (handlerPeriod alu s).setMem m := by
  simp only [handlerPeriod, State.setMem_instr]
  split
  case h_1 h | h_2 h | h_3 h | h_5 h | h_6 h | h_11 h => rw [h] at dead; cases dead
  case h_4 => exact indexPeriod_setMem m alu
  case h_7 op h => rw [h] at dead; exact rmwPeriod_setMem m alu op dead
  case h_8 h => rw [h] at dead; exact jumpPeriod_setMem m dead
  case h_9 op h => rw [h] at dead; exact readPeriod_setMem m alu op dead
  case h_10 h => rw [h] at dead; exact storePeriod_setMem m alu dead

end DeadPeriod

/-- The dead periods of a run: the first one of the reset sequence, and a dead cycle of a handler. -/
theorem State.Inv.dead_cases {s : State} (inv : s.Inv) (hv : s.vma = false) :
    s.rst = 0 ∨ s.rst = 3 ∧ s.cycle ≠ 0 ∧ (dispatch s.instr).deadCycle s.mode.toNat s.cycle.toNat = true := by
  obtain ⟨-, sequencer, boundary, handler⟩ := inv
  by_cases hr : s.rst = 3
  · have hc : s.cycle ≠ 0 := by
      intro hc
      obtain ⟨-, -, vma⟩ := boundary hr hc
      exact absurd hv (by simp [vma])
    obtain ⟨-, vma, -⟩ := handler hr hc
    exact .inr ⟨hr, hc, by simpa [hv] using vma⟩
  · obtain ⟨-, -, vma⟩ := sequencer hr
    exact .inl (by simpa [hv] using vma)

/-- A dead period of a run is the same over any memory, which it leaves as it is. -/
theorem State.Inv.clock_setMem {s : State} (inv : s.Inv) (hv : s.vma = false) (m : Memory) :
    Machine.clock false (s.setMem m) = (Machine.clock false s).setMem m := by
  have commit : (s.setMem m).committedMem = m := committedMem_of_dead hv
  obtain hr | ⟨hr, hc, dead⟩ := inv.dead_cases hv
  · have hr3 : s.rst ≠ 3 := by simp [hr]
    rw [Machine.clock_sequencer hr3, Machine.clock_sequencer (s := s.setMem m) hr3, commit]
    simp only [sequencerPeriod, setMem_rst, hr]
    rfl
  · rw [Machine.clock_handler hr hc, Machine.clock_handler (s := s.setMem m) hr hc, commit,
      handlerPeriod_setMem m machineAlu dead]
    rfl

/-! ## What the ten read-modify-write operations store, as numbers (41 R175, R180 to R187; log 9) -/

section StoredByte

variable (v ccs : Byte)

/-- A shift to the left takes `c` in at bit 0. -/
theorem toNat_extractLsb'_append_ofBool (c : Bool) :
    (v.extractLsb' 0 7 ++ BitVec.ofBool c : Byte).toNat = (2 * v.toNat + c.toNat) % 256 := by
  have low : (BitVec.ofBool c).toNat < 2 ^ 1 := (BitVec.ofBool c).isLt
  rw [BitVec.toNat_append, ← Nat.shiftLeft_add_eq_or_of_lt low, Nat.shiftLeft_eq]
  simp only [BitVec.extractLsb'_toNat, BitVec.toNat_ofBool, Nat.shiftRight_zero] at low ⊢
  omega

/-- A shift to the right takes `c` in at bit 7. -/
theorem toNat_ofBool_append_extractLsb' (c : Bool) :
    (BitVec.ofBool c ++ v.extractLsb' 1 7 : Byte).toNat = 128 * c.toNat + v.toNat / 2 := by
  have := v.isLt
  rw [BitVec.toNat_append, ← Nat.shiftLeft_add_eq_or_of_lt (v.extractLsb' 1 7).isLt, Nat.shiftLeft_eq]
  simp only [BitVec.extractLsb'_toNat, BitVec.toNat_ofBool, Nat.shiftRight_eq_div_pow]
  omega

theorem RmwOp.result_neg : (RmwOp.neg.compute machineAlu v ccs).result = diff8 0 v 0 := by
  refine BitVec.eq_of_toNat_eq ((toNat_aluSub 0 v ccs false).trans ?_)
  simp only [diff8, BitVec.toNat_ofNat, Bool.toNat_false]
  omega

theorem RmwOp.result_com : (RmwOp.com.compute machineAlu v ccs).result = BitVec.ofNat 8 (255 - v.toNat) := by
  refine BitVec.eq_of_toNat_eq ((BitVec.toNat_not (x := v)).trans ?_)
  rw [BitVec.toNat_ofNat]
  omega

theorem RmwOp.result_lsr : (RmwOp.lsr.compute machineAlu v ccs).result = BitVec.ofNat 8 (v.toNat / 2) := by
  refine BitVec.eq_of_toNat_eq ((toNat_ofBool_append_extractLsb' v false).trans ?_)
  rw [BitVec.toNat_ofNat, Bool.toNat_false]
  omega

theorem RmwOp.result_asr : (RmwOp.asr.compute machineAlu v ccs).result = BitVec.ofInt 8 (v.toInt / 2) := by
  refine BitVec.eq_of_toNat_eq ((toNat_ofBool_append_extractLsb' v (v.getLsbD 7)).trans ?_)
  have sign : v.getLsbD 7 = decide (128 ≤ v.toNat) := v.getLsbD_last
  rw [sign, BitVec.toNat_ofInt, BitVec.toInt_eq_toNat_cond]
  by_cases h : 128 ≤ v.toNat
  · rw [decide_eq_true h, Bool.toNat_true, if_neg (by omega)]
    omega
  · rw [decide_eq_false h, Bool.toNat_false, if_pos (by omega)]
    omega

theorem RmwOp.result_asl : (RmwOp.asl.compute machineAlu v ccs).result = BitVec.ofNat 8 (2 * v.toNat) :=
  BitVec.eq_of_toNat_eq (toNat_extractLsb'_append_ofBool v false)

theorem RmwOp.result_rol : (RmwOp.rol.compute machineAlu v ccs).result = BitVec.ofNat 8 (2 * v.toNat + carry ccs) :=
  BitVec.eq_of_toNat_eq (toNat_extractLsb'_append_ofBool v (flagC ccs))

theorem RmwOp.result_ror :
    (RmwOp.ror.compute machineAlu v ccs).result = BitVec.ofNat 8 (128 * carry ccs + v.toNat / 2) := by
  refine BitVec.eq_of_toNat_eq ((toNat_ofBool_append_extractLsb' v (flagC ccs)).trans ?_)
  have : (flagC ccs).toNat ≤ 1 := toNat_flagC_le ccs
  exact (Nat.mod_eq_of_lt (by omega)).symm

theorem RmwOp.result_inc : (RmwOp.inc.compute machineAlu v ccs).result = BitVec.ofNat 8 (v.toNat + 1) :=
  BitVec.eq_of_toNat_eq (v.toNat_add 1)

theorem RmwOp.result_dec : (RmwOp.dec.compute machineAlu v ccs).result = BitVec.ofNat 8 (v.toNat + 255) := by
  refine BitVec.eq_of_toNat_eq ((BitVec.toNat_sub v 1).trans ?_)
  simp [Nat.add_comm]

theorem RmwOp.result_clr : (RmwOp.clr.compute machineAlu v ccs).result = 0x00 := by
  refine BitVec.eq_of_toNat_eq ((toNat_aluSub v v ccs false).trans ?_)
  simp

end StoredByte

/-! ## The fetch after a store (20_memory R77) -/

/-- The step after `i` runs the instruction whose opcode is the byte `v`. -/
def FetchedAfter (s : State) (i : Instr) (v : Byte) : Prop :=
  ∃ t, exec i s = .next t ∧
    step t = exec (decodeTriple v (t.mem.read (t.pc + 1)) (t.mem.read (t.pc + 2))) { t with instr := v }

/-- The memory forms of the read-modify-write family (30_encoding R103). -/
def RmwOp.onMem : RmwOp → MemOperand → Instr
  | .neg => .neg | .com => .com | .lsr => .lsr | .ror => .ror | .asr => .asr | .asl => .asl
  | .rol => .rol | .dec => .dec | .inc => .inc | .tst => .tst | .clr => .clr

/-- The stores of an accumulator (30_encoding R103). -/
def Acc.storeInstr : Acc → StoreOperand → Instr
  | .A => .staa
  | .B => .stab

@[simp] theorem action_onMem (op : RmwOp) (o : MemOperand) : (op.onMem o).action = .rmwMem op o := by
  cases op <;> cases o <;> rfl

@[simp] theorem action_storeInstr (acc : Acc) (o : StoreOperand) : (acc.storeInstr o).action = .store acc o := by
  cases acc <;> cases o <;> rfl

section NextFetch

variable {s : State} (hr : s.rst = 3) (hin : s.rstIn = [])
include hr hin

/-- The byte that an instruction leaves at its next address is the next opcode. -/
theorem fetchedAfter_nextMem (i : Instr) :
    FetchedAfter s i ((i.action.nextMem s).read (i.action.nextPc s)) := by
  refine ⟨_, exec_action i s, ?_⟩
  have boundary : (i.action.effect s).atBoundary = true :=
    (State.atBoundary_iff _).mpr ⟨by rw [Action.effect_rst, hr], by simp⟩
  rw [step_boundary (by rw [Action.effect_rstIn, hin]) boundary, ← Action.effect_mem, ← Action.effect_pc]
  rfl

variable (mem : s.mem.wf = true)
include mem

theorem fetchedAfter_store (acc : Acc) {o : StoreOperand} (next : o.ea s = s.pc + storeLength o) :
    FetchedAfter s (acc.storeInstr o) (s.acc acc) := by
  have fetched := fetchedAfter_nextMem hr hin (acc.storeInstr o)
  have length : o.length = storeLength o := by cases o <;> rfl
  rwa [action_storeInstr, Action.nextMem, Action.nextPc, length, ← next, Memory.read_write_same mem] at fetched

theorem fetchedAfter_rmwMem {op : RmwOp} {o : MemOperand} {v : Byte} (next : o.ea s = s.pc + memLength o)
    (stores : op.stores = true) (result : (op.compute machineAlu (s.mem.read (o.ea s)) s.ccs).result = v) :
    FetchedAfter s (op.onMem o) v := by
  have fetched := fetchedAfter_nextMem hr hin (op.onMem o)
  have length : o.length = memLength o := by cases o <;> rfl
  rwa [action_onMem, Action.nextMem, Action.nextPc, length, ← next, if_pos stores, Memory.read_write_same mem,
    result] at fetched

end NextFetch

end Sys2Proof.Machine

namespace Sys2Proof.Proofs

open Sys2Proof.Machine

/-- Settles O23: a dead period is the same over any memory, and commits no write. -/
theorem deadCycleTouchesNoMemory : Obligations.DeadCycleTouchesNoMemory :=
  fun s m inv hv => ⟨inv.clock_setMem hv m, (clock_mem false s).trans (State.committedMem_of_dead hv)⟩

/-- Settles O47: the byte stored is at the address of the next opcode. -/
theorem storeIsSeenByTheNextFetch : Obligations.StoreIsSeenByTheNextFetch := by
  intro s mem hr hin
  refine ⟨fun o next => ⟨fetchedAfter_store hr hin mem .A next, fetchedAfter_store hr hin mem .B next⟩,
    fun o next => ?_⟩
  have stored (op : RmwOp) {v : Byte} := fetchedAfter_rmwMem (op := op) (v := v) hr hin mem next
  exact ⟨stored .neg rfl (RmwOp.result_neg _ _), stored .com rfl (RmwOp.result_com _ _),
    stored .lsr rfl (RmwOp.result_lsr _ _), stored .asr rfl (RmwOp.result_asr _ _),
    stored .asl rfl (RmwOp.result_asl _ _), stored .rol rfl (RmwOp.result_rol _ _),
    stored .ror rfl (RmwOp.result_ror _ _), stored .inc rfl (RmwOp.result_inc _ _),
    stored .dec rfl (RmwOp.result_dec _ _), stored .clr rfl (RmwOp.result_clr _ _)⟩

end Sys2Proof.Proofs
end

section
/-! The 30_encoding family. What an opcode byte says (`opcodeForm`) is tied once to the decoder, to the encoder and to
well-formedness by one relation, `OpcodeForm.Reads`; O1, O2 and O3 are read off these ties. Then the periods of an
effect, for the two forms of the decode table, and the effective addresses. -/

namespace Sys2Proof

/-- What must be shown of every byte may be shown of each number below 256. -/
theorem forall_byte_of_lt {P : Byte → Prop} (numeral : ∀ n < 256, P (BitVec.ofNat 8 n)) (b : Byte) : P b := by
  simpa using numeral b.toNat b.isLt

/-! ## What an opcode form reads (30_encoding R90, R95) -/

/-- With the operand bytes `args` after the opcode, the form gives the instruction `i`. -/
inductive OpcodeForm.Reads : OpcodeForm → List Byte → Instr → Prop
  | inherent (i : Instr) : (OpcodeForm.inherent i).Reads [] i
  | oneByte (k : Byte → Instr) (b : Byte) : (OpcodeForm.oneByte k).Reads [b] (k b)
  | twoBytes (k : Word → Instr) (hhll : Word) : (OpcodeForm.twoBytes k).Reads [hiByte hhll, loByte hhll] (k hhll)

/-- All that the decoder can answer: what the opcode's form reads, and the bytes after it. -/
theorem decode_cons_eq_ok_iff {op : Byte} {bytes rest : List Byte} {i : Instr} :
    decode (op :: bytes) = .ok (i, rest) ↔ ∃ args, (opcodeForm op).Reads args i ∧ bytes = args ++ rest := by
  simp only [decode]
  generalize opcodeForm op = form
  constructor
  · intro h
    split at h <;> cases h
    case h_1 => exact ⟨_, .inherent _, rfl⟩
    case h_2 => exact ⟨_, .oneByte _ _, rfl⟩
    case h_3 => exact ⟨_, .twoBytes _ _, by simp⟩
  · rintro ⟨args, reads, rfl⟩
    cases reads with
    | inherent | oneByte => rfl
    | twoBytes => simp

/-- Three bytes are enough for every opcode: it reads none, one or both of the two after it (30 R101). -/
theorem exists_reads_decodeTriple (b0 b1 b2 : Byte) :
    ∃ args, (opcodeForm b0).Reads args (decodeTriple b0 b1 b2) ∧ args <+: [b1, b2] := by
  unfold decodeTriple
  cases opcodeForm b0 with
  | inherent i => exact ⟨_, .inherent i, List.nil_prefix⟩
  | oneByte k => exact ⟨_, .oneByte k b1, [b2], rfl⟩
  | twoBytes k => exact ⟨_, .twoBytes k (joinBytes b1 b2), [], by simp⟩

/-! ## The opcode map against the encoder (30_encoding R99, R102; the opcode numbers are log 10) -/

/-- The 97 listed bytes are unrecognised in the map (30 R99). -/
theorem opcodeForm_of_mem_unrecognised {op : Byte} (h : op ∈ unrecognisedOpcodes) :
    opcodeForm op = .inherent (.unrecognised op) := by
  have listed : unrecognisedOpcodes.map opcodeForm =
      unrecognisedOpcodes.map fun op => .inherent (.unrecognised op) := rfl
  exact List.map_inj_left.mp listed op h

/-- A well-formed instruction is what the map reads from its encoding. -/
theorem Instr.exists_reads_encode {i : Instr} (wf : i.wf = true) :
    ∃ op args, encode i = op :: args ∧ (opcodeForm op).Reads args i := by
  cases i with
  | unrecognised op =>
    refine ⟨op, [], rfl, ?_⟩
    rw [opcodeForm_of_mem_unrecognised (List.contains_iff_mem.mp wf)]
    exact .inherent _
  | _ => exact ⟨_, _, rfl, by constructor⟩

/-- What the map reads is well formed, and its encoding is the opcode and the operand bytes read. -/
theorem OpcodeForm.Reads.wf_and_encode {op : Byte} {args : List Byte} {i : Instr}
    (h : (opcodeForm op).Reads args i) : i.wf = true ∧ encode i = op :: args := by
  induction op using forall_byte_of_lt with
  | numeral n lt => interval_cases n <;> cases h <;> exact ⟨rfl, rfl⟩

/-- An instruction encodes to as many bytes as its length says (30 R101). -/
theorem length_encode (i : Instr) : (encode i).length = i.length := by cases i <;> rfl

/-- No byte triple decodes to an ill-formed instruction. -/
theorem wf_decodeTriple (b0 b1 b2 : Byte) : (decodeTriple b0 b1 b2).wf = true :=
  have ⟨_, reads, _⟩ := exists_reads_decodeTriple b0 b1 b2
  reads.wf_and_encode.1

/-- A byte triple decodes as unrecognised exactly when its opcode is one of the 97 listed bytes (30 R99). -/
theorem decodeTriple_eq_unrecognised_iff (b0 b1 b2 : Byte) :
    decodeTriple b0 b1 b2 = .unrecognised b0 ↔ unrecognisedOpcodes.contains b0 = true := by
  constructor
  · intro h
    have wf := wf_decodeTriple b0 b1 b2
    rwa [h] at wf
  · intro h
    rw [decodeTriple, opcodeForm_of_mem_unrecognised (List.contains_iff_mem.mp h)]
    rfl

end Sys2Proof

namespace Sys2Proof.Machine

open Sys2Proof.Claims

/-! ## The mask-and-match table (30_encoding R98) and the periods of an effect (40 R140) -/

/-- The instructions with no effect of their own are NOP and the unrecognised ones. -/
theorem eq_nop_or_unrecognised_of_skip {i : Instr} (h : i.action = .skip) :
    i = .nop ∨ ∃ op, i = .unrecognised op := by
  cases i with
  | nop => exact .inl rfl
  | unrecognised op => exact .inr ⟨op, rfl⟩
  | _ => cases h

/-- The dispatcher's default is for the 97 listed bytes (30 R99): a byte that takes it decodes to an instruction without
effect, and that is not NOP, whose byte has a row of its own. -/
theorem dispatch_eq_unrecognised_iff (b : Byte) :
    dispatch b = .unrecognised ↔ unrecognisedOpcodes.contains b = true := by
  constructor
  · intro h
    have skip : (decodeTriple b 0 0).action = .skip := by rw [action_decodeTriple, h]; rfl
    obtain ⟨args, reads, -⟩ := exists_reads_decodeTriple b 0 0
    obtain ⟨wf, bytes⟩ := reads.wf_and_encode
    obtain nop | ⟨op, unrecognised⟩ := eq_nop_or_unrecognised_of_skip skip
    · rw [nop] at bytes
      cases bytes
      cases h
    · rw [unrecognised] at wf bytes
      cases bytes
      exact wf
  · intro h
    have listed : unrecognisedOpcodes.map dispatch = unrecognisedOpcodes.map fun _ => .unrecognised := rfl
    exact List.map_inj_left.mp listed b (List.contains_iff_mem.mp h)

/-- There is no store in mode 0 (45 R290). -/
theorem mode_ne_zero_of_store (b : Byte) : dispatch b = .store → (b.extractLsb' 4 2).toNat ≠ 0 := by
  induction b using forall_byte_of_lt with
  | numeral n lt => interval_cases n <;> decide

/-- The clock periods of an effect, the fetch included. -/
def Action.periods : Action → Nat
  | .skip | .tap | .tpa | .flag _ | .rmwAcc _ _ => 2
  | .index _ | .branch _ _ _ => 4
  | .rmwMem _ (.idx _) => 7
  | .rmwMem _ (.ext _) => 6
  | .jump (.idx _) => 4
  | .jump (.ext _) => 3
  | .read _ _ (.imm _) | .read _ _ (.dir _) => 3
  | .read _ _ (.idx _) => 5
  | .read _ _ (.ext _) => 4
  | .store _ (.dir _) => 4
  | .store _ (.idx _) => 6
  | .store _ (.ext _) => 5

@[simp] theorem periods_action (i : Instr) : i.action.periods = i.periods := by cases i <;> rfl

/-- The effect a handler selects takes the cycles of its table, and the fetch; a store has no mode 0. -/
theorem Handler.periods_action {h : Handler} {b0 : Byte} (b1 b2 : Byte)
    (store : h = .store → (b0.extractLsb' 4 2).toNat ≠ 0) :
    (h.action b0 b1 b2).periods = h.endCycle (b0.extractLsb' 4 2).toNat + 1 := by
  have lt : (b0.extractLsb' 4 2).toNat < 4 := (b0.extractLsb' 4 2).isLt
  unfold action
  generalize (b0.extractLsb' 4 2).toNat = mode at store lt ⊢
  cases h with
  | readModifyWrite | jump | aluRead => interval_cases mode <;> rfl
  | store =>
    have pos : 0 < mode := Nat.pos_of_ne_zero (store rfl)
    interval_cases mode <;> rfl
  | _ => rfl

/-- Both forms of the decode table give an opcode byte the same number of periods. -/
theorem periods_decodeTriple (b0 b1 b2 : Byte) :
    (decodeTriple b0 b1 b2).periods = (dispatch b0).endCycle (b0.extractLsb' 4 2).toNat + 1 := by
  rw [← periods_action, action_decodeTriple]
  exact Handler.periods_action b1 b2 (mode_ne_zero_of_store b0)

/-! ## Effective addresses in the arithmetic of numbers (40 R135) -/

theorem eaDirect_eq (dd : Byte) : eaDirect dd = direct dd := by simp [eaDirect, direct, zext16]

theorem eaIndexed_eq (ff : Byte) (s : State) : eaIndexed ff s = indexed s ff := by
  apply BitVec.eq_of_toNat_eq
  simp [eaIndexed, indexed, zext16]

theorem value_eq_operand (s : State) (o : ReadOperand) : o.value s = operand s o := by
  cases o with
  | imm | ext => rfl
  | dir dd => rw [ReadOperand.value, eaDirect_eq, operand]
  | idx ff => rw [ReadOperand.value, eaIndexed_eq, operand]

theorem toNat_direct (dd : Byte) : (direct dd).toNat = dd.toNat := by
  have := dd.isLt
  rw [direct, BitVec.toNat_ofNat]
  omega

theorem toNat_joinBytes (hi lo : Byte) : (joinBytes hi lo).toNat = 256 * hi.toNat + lo.toNat := by
  have := hi.isLt
  have := lo.isLt
  rw [joinBytes, BitVec.toNat_ofNat]
  omega

end Sys2Proof.Machine

namespace Sys2Proof.Proofs

open Sys2Proof.Machine

/-- Settles O1: the map reads a well-formed instruction from its encoding, which is what the decoder answers. -/
theorem decodeInvertsEncode : Obligations.DecodeInvertsEncode := by
  intro i rest wf
  obtain ⟨op, args, bytes, reads⟩ := Instr.exists_reads_encode wf
  rw [bytes]
  exact decode_cons_eq_ok_iff.mpr ⟨args, reads, rfl⟩

/-- Settles O2: the decoder answers only what the map reads, which is well formed and encodes to those bytes. -/
theorem encodeInvertsDecode : Obligations.EncodeInvertsDecode := by
  intro bs rest i h
  cases bs with
  | nil => cases h
  | cons op bytes =>
    obtain ⟨args, reads, rfl⟩ := decode_cons_eq_ok_iff.mp h
    obtain ⟨wf, bytes⟩ := reads.wf_and_encode
    exact ⟨wf, by rw [bytes]; rfl⟩

/-- Settles O3: the map reads at most the two bytes after the opcode. -/
theorem threeBytesAlwaysDecode : Obligations.ThreeBytesAlwaysDecode := by
  intro b0 b1 b2 rest
  obtain ⟨args, reads, tail, operands⟩ := exists_reads_decodeTriple b0 b1 b2
  have length : (decodeTriple b0 b1 b2).length = args.length + 1 := by
    rw [← length_encode, reads.wf_and_encode.2, List.length_cons]
  have count : args.length + tail.length = 2 := by rw [← List.length_append, operands]; rfl
  have stream : b1 :: b2 :: rest = args ++ (tail ++ rest) := by rw [← List.append_assoc, operands]; rfl
  refine ⟨decodeTriple b0 b1 b2, ?_, rfl, by omega, by omega⟩
  rw [length, List.drop_succ_cons, stream, List.drop_left]
  exact decode_cons_eq_ok_iff.mpr ⟨args, reads, rfl⟩

/-- Settles O5: both forms select the same effect, and from it follow the meaning and the periods. -/
theorem dispatcherAgreesWithDecoder : Obligations.DispatcherAgreesWithDecoder := fun b0 b1 b2 =>
  ⟨fun s => by rw [exec_action, action_decodeTriple], dispatch_eq_unrecognised_iff b0,
    decodeTriple_eq_unrecognised_iff b0 b1 b2, periods_decodeTriple b0 b1 b2⟩

/-- Settles O4: the decoder run on the ten words. -/
theorem specWordsDecode : Obligations.SpecWordsDecode :=
  ⟨rfl, rfl, rfl, rfl, rfl, rfl, rfl, rfl, rfl, rfl⟩

/-- Settles O28, from the addresses as numbers. -/
theorem effectiveAddressesOfEveryMode : Obligations.EffectiveAddressesOfEveryMode :=
  ⟨fun _ dd => ⟨eaDirect_eq dd, toNat_direct dd⟩, fun s ff => ⟨eaIndexed_eq ff s, eaIndexed_eq ff s⟩,
    fun _ _ => ⟨rfl, rfl⟩, value_eq_operand, toNat_joinBytes⟩

end Sys2Proof.Proofs
end

section
/-! The 40_sequencer_and_resolvers family. O14, O12 and O11 are read off the laws of the effects, of a step and of the
fetch. For O15 the cycle tables of a handler are written once as the list of its rows (`Handler.rows`): the clock runs
the rows one by one (`Handler.Does.clocks`), and end to end they are the instruction's effect (`foldl_rows`). -/

namespace Sys2Proof.Machine

open Sys2Proof.Claims

/-! ## The end of an instruction and the instruction at `PC` -/

/-- An instruction that is neither a branch nor a jump continues past its own bytes (30_encoding R101). -/
theorem nextPc_action_of_sequential {i : Instr} (h : sequential i = true) (s : State) :
    i.action.nextPc s = s.pc + BitVec.ofNat 16 i.length := by
  cases i with
  | jmpIdx | jmpExt | bra | brn | bhi | bls | bcc | bcs | bne | beq | bvc | bvs | bpl | bmi | bge | blt | bgt | ble =>
    cases h
  | _ => rfl

@[simp] theorem streamByte_zero (s : State) : streamByte s 0 = s.mem.read s.pc := by simp [streamByte]

/-- What the decoder reads from the bytes at `PC` is the instruction at the program counter. -/
theorem eq_nextInstr_of_decode {s : State} {i : Instr} {rest : List Byte}
    (h : decode [streamByte s 0, streamByte s 1, streamByte s 2] = .ok (i, rest)) : i = s.nextInstr := by
  obtain ⟨_, reads, rfl, -⟩ := Proofs.threeBytesAlwaysDecode (streamByte s 0) (streamByte s 1) (streamByte s 2) []
  cases h.symm.trans reads
  rw [streamByte_zero]
  rfl

/-! ## The cycle tables as lists of rows (42 R201, 43 R231, R232, 44 R262, 45 R291, 46 R301, 47 R310, R321) -/

/-- The accumulator that bit 6 of the opcode names. -/
def State.instrAcc (s : State) : Acc := if s.instr.getLsbD 6 then .B else .A

/-- INX and DEX, cycle 1 (47 R321). -/
def indexCycle1 (s : State) : State :=
  { s.tick with x := if s.instr.getLsbD 0 then s.x - 1 else s.x + 1, addr := s.x, vma := false }

/-- INX and DEX, cycle 2 (47 R321). -/
def indexCycle2 (s : State) : State := { s.tick with addr := s.x, vma := false }

/-- A branch, cycle 2 (44 R262). -/
def branchCycle2 (s : State) : State := { s.tick with tmp16 := s.pc + sext16 s.tmp8 }

/-- A branch, cycle 3 (44 R262). -/
def branchCycle3 (s : State) : State :=
  s.endInstr (if branchTaken (s.instr.extractLsb' 1 3) (s.instr.getLsbD 0) s.ccs then s.tmp16 else s.pc)

/-- A cycle that does `fire` and ends the instruction at `PC`. -/
def fireCycle (fire : State → State) (s : State) : State := (fire s).endInstr s.pc

/-- The action of an ALU-read on the accumulator that the opcode names, with the operand byte taken from `v`. -/
def readFireOn (op : ReadOp) (v : State → Byte) (s : State) : State := readFire machineAlu op s.instrAcc (v s) s

/-- The dead cycle of a store of the accumulator that the opcode names. -/
def storeStageOn (s : State) : State := storeStageCycle s.instrAcc s

/-- The final cycle of a store of the accumulator that the opcode names. -/
def storeFinalOn (s : State) : State := storeFinalCycle machineAlu s.instrAcc s

/-- What a handler does in the cycles 1, 2, … of an instruction, by `MODE`. -/
def Handler.rows : Handler → Nat → List (State → State)
  | .noOperation, _ | .unrecognised, _ => [fireCycle id]
  | .transferTap, _ => [fireCycle (tapFire machineAlu)]
  | .transferTpa, _ => [fireCycle (tpaFire machineAlu)]
  | .flag, _ => [fireCycle fun s => flagFire machineAlu (flagFunc s.instr) s]
  | .indexStep, _ => [indexCycle1, indexCycle2, fireCycle (indexFire machineAlu)]
  | .branch, _ => [immediateCycle1, branchCycle2, branchCycle3]
  | .readModifyWrite op, 0 => [fireCycle (rmwAccFire machineAlu op .A)]
  | .readModifyWrite op, 1 => [fireCycle (rmwAccFire machineAlu op .B)]
  | .readModifyWrite op, 2 =>
    [indexedCycle1, indexedCycle2, indexedCycle3 false, rmwComputeCycle machineAlu op, rmwStageCycle op, fireCycle id]
  | .readModifyWrite op, _ =>
    [extendedCycle1, extendedCycle2 false, rmwComputeCycle machineAlu op, rmwStageCycle op, fireCycle id]
  | .jump, 2 => [indexedCycle1, indexedCycle2, fun s => s.endInstr s.tmp16]
  | .jump, _ => [extendedCycle1, jumpExtendedCycle2]
  | .aluRead op, 0 => [immediateCycle1, fireCycle (readFireOn op State.tmp8)]
  | .aluRead op, 1 => [directCycle1 false, fireCycle (readFireOn op State.din)]
  | .aluRead op, 2 => [indexedCycle1, indexedCycle2, indexedCycle3 false, fireCycle (readFireOn op State.din)]
  | .aluRead op, _ => [extendedCycle1, extendedCycle2 false, fireCycle (readFireOn op State.din)]
  | .store, 1 => [directCycle1 true, storeStageOn, storeFinalOn]
  | .store, 2 => [indexedCycle1, indexedCycle2, indexedCycle3 true, storeStageOn, storeFinalOn]
  | .store, _ => [extendedCycle1, extendedCycle2 true, storeStageOn, storeFinalOn]

section CycleCount

variable (s : State) (dead : Bool)

@[simp] theorem immediateCycle1_cycle : (immediateCycle1 s).cycle = s.cycle + 1 := rfl
@[simp] theorem directCycle1_cycle : (directCycle1 dead s).cycle = s.cycle + 1 := rfl
@[simp] theorem extendedCycle1_cycle : (extendedCycle1 s).cycle = s.cycle + 1 := rfl
@[simp] theorem extendedCycle2_cycle : (extendedCycle2 dead s).cycle = s.cycle + 1 := rfl
@[simp] theorem indexedCycle1_cycle : (indexedCycle1 s).cycle = s.cycle + 1 := rfl
@[simp] theorem indexedCycle2_cycle : (indexedCycle2 s).cycle = s.cycle + 1 := rfl
@[simp] theorem indexedCycle3_cycle : (indexedCycle3 dead s).cycle = s.cycle + 1 := rfl
@[simp] theorem indexCycle1_cycle : (indexCycle1 s).cycle = s.cycle + 1 := rfl
@[simp] theorem indexCycle2_cycle : (indexCycle2 s).cycle = s.cycle + 1 := rfl
@[simp] theorem branchCycle2_cycle : (branchCycle2 s).cycle = s.cycle + 1 := rfl
@[simp] theorem rmwComputeCycle_cycle (alu : Alu) (op : RmwOp) : (rmwComputeCycle alu op s).cycle = s.cycle + 1 := rfl
@[simp] theorem rmwStageCycle_cycle (op : RmwOp) : (rmwStageCycle op s).cycle = s.cycle + 1 := rfl
@[simp] theorem storeStageOn_cycle : (storeStageOn s).cycle = s.cycle + 1 := rfl

end CycleCount

/-- `m` is a `MODE` that some opcode of the handler has. -/
structure Handler.HasMode (h : Handler) (m : Nat) : Prop where
  lt : m < 4
  store : h = .store → 0 < m
  jump : h = .jump → 1 < m

/-- There is a jump in modes 2 and 3 only (46 R301). -/
theorem one_lt_mode_of_jump (b : Byte) : dispatch b = .jump → 1 < (b.extractLsb' 4 2).toNat := by
  induction b using forall_byte_of_lt with
  | numeral n lt => interval_cases n <;> decide

theorem dispatch_hasMode (s : State) : (dispatch s.instr).HasMode s.mode.toNat where
  lt := s.mode.isLt
  store h := Nat.pos_of_ne_zero (mode_ne_zero_of_store s.instr h)
  jump := one_lt_mode_of_jump s.instr

/-- From cycle `k` on the handler does `rows` in mode `m`, and each of them but the last counts the cycle. -/
def Handler.Does (h : Handler) (m : Nat) : Nat → List (State → State) → Prop
  | _, [] => True
  | k, row :: rows =>
    (∀ s, dispatch s.instr = h → s.mode.toNat = m → s.cycle.toNat = k → handlerPeriod machineAlu s = row s) ∧
    (rows ≠ [] → ∀ s, (row s).cycle = s.cycle + 1) ∧ h.Does m (k + 1) rows

/-- The lists are the tables: row `k` is the handler's period in cycle `k`. -/
theorem Handler.HasMode.does_rows {h : Handler} {m : Nat} (mode : h.HasMode m) : h.Does m 1 (h.rows m) := by
  obtain ⟨lt, store, jump⟩ := mode
  cases h with
  | noOperation | transferTap | transferTpa | flag | unrecognised =>
    simp +contextual [Does, rows, handlerPeriod, oneCyclePeriod, fireCycle, ← BitVec.toNat_inj]
  | indexStep => simp +contextual [Does, rows, handlerPeriod, indexPeriod, fireCycle, indexCycle1, indexCycle2]
  | branch => simp +contextual [Does, rows, handlerPeriod, branchPeriod, branchCycle2, branchCycle3]
  | readModifyWrite op => interval_cases m <;> simp +contextual [Does, rows, handlerPeriod, rmwPeriod, fireCycle]
  | jump =>
    have := jump rfl
    interval_cases m <;> simp +contextual [Does, rows, handlerPeriod, jumpPeriod]
  | aluRead op =>
    interval_cases m <;>
      simp +contextual [Does, rows, handlerPeriod, readPeriod, fireCycle, readFireOn, State.instrAcc]
  | store =>
    have := store rfl
    interval_cases m <;>
      simp +contextual [Does, rows, handlerPeriod, storePeriod, storeStageOn, storeFinalOn, State.instrAcc,
        storeStageCycle, State.tick]

/-- There is a row for each cycle up to the end cycle (40 R140). -/
theorem Handler.HasMode.length_rows {h : Handler} {m : Nat} (mode : h.HasMode m) :
    (h.rows m).length = h.endCycle m := by
  obtain ⟨lt, store, -⟩ := mode
  cases h with
  | readModifyWrite | jump | aluRead => interval_cases m <;> rfl
  | store =>
    have := store rfl
    interval_cases m <;> rfl
  | _ => rfl

/-! ## The clock runs the rows one by one (40 R120, R127) -/

/-- The state after a period that does `row`: the write that was on the bus is committed with it (20_memory R63). -/
def State.commit (s : State) (row : State → State) : State := (row s).setMem s.committedMem

@[simp] theorem State.commit_cycle (s : State) (row : State → State) : (s.commit row).cycle = (row s).cycle := rfl

/-- The instruction latch holds until the next fetch (10_state R25). -/
theorem clock_instr {s : State} (hr : s.rst = 3) (hc : s.cycle ≠ 0) : (clock false s).instr = s.instr := by
  rw [clock_handler hr hc, State.setMem_instr, handlerPeriod_instr]

/-- From a state in cycle `k`, the next periods do the rows from cycle `k` on, and the cycle counter counts them. -/
theorem Handler.Does.clocks {h : Handler} {m k : Nat} {rows : List (State → State)} {s : State}
    (does : h.Does m k rows) (pos : k ≠ 0) (le : k + rows.length ≤ 16) (hr : s.rst = 3) (hd : dispatch s.instr = h)
    (hm : s.mode.toNat = m) (hk : s.cycle.toNat = k) :
    Machine.clocks rows.length s = rows.foldl State.commit s ∧
    ∀ j < rows.length, (Machine.clocks j s).cycle.toNat = k + j := by
  induction rows generalizing k s with
  | nil => exact ⟨rfl, nofun⟩
  | cons row rows ih =>
    obtain ⟨does_row, counts, rest⟩ := does
    have hc : s.cycle ≠ 0 := by
      intro hc
      exact pos (by rw [← hk, hc]; rfl)
    have period : clock false s = s.commit row := by rw [clock_handler hr hc, does_row s hd hm hk, State.commit]
    have instr : (s.commit row).instr = s.instr := by rw [← period, clock_instr hr hc]
    rw [List.length_cons] at le ⊢
    by_cases last : rows = []
    · subst last
      refine ⟨period, fun j lt => ?_⟩
      obtain rfl : j = 0 := by simpa using lt
      exact hk
    · have : rows.length ≠ 0 := by simpa using last
      have hk' : (s.commit row).cycle.toNat = k + 1 := by
        rw [State.commit_cycle, counts last s, BitVec.toNat_add_of_lt (by simp; omega), hk]
        rfl
      obtain ⟨run, count⟩ := ih rest (by omega) (by omega) (period ▸ clock_rst hr) (instr ▸ hd)
        (by rw [State.mode, instr]; exact hm) hk'
      refine ⟨by rw [clocks_succ, period, run]; rfl, fun j lt => ?_⟩
      cases j with
      | zero => exact hk
      | succ j => rw [clocks_succ, period, count j (by omega), Nat.add_right_comm, Nat.add_assoc]

/-! ## End to end the rows are the effect (40 R130 to R135) -/

theorem add_one_add_one (p : Word) : p + 1 + 1 = p + 2 := by rw [BitVec.add_assoc]; rfl
theorem add_two_add_one (p : Word) : p + 2 + 1 = p + 3 := by rw [BitVec.add_assoc]; rfl

section Commit

variable (s : State) (k : BitVec 4) (p a : Word) (vma dead : Bool)

/-- `s` in cycle `k` of an instruction, the program counter at `p`, the bus reading at `a`. -/
def State.onBus : State := { s with cycle := k, pc := p, addr := a, rw := true, vma := vma }

/-- The fetch from a boundary latches the opcode and leads to cycle 1 (40 R126). -/
theorem clock_boundary {s : State} (hb : s.atBoundary = true) :
    clock false s = (s.setInstr (s.mem.read s.pc)).onBus 1 (s.pc + 1) (s.pc + 1) true := by
  obtain ⟨hr, hc, ha, hw, -⟩ := s.atBoundary_iff.mp hb
  rw [clock_fetch hr hc, State.committedMem_of_read hw, fetchPeriod, State.din_of_read hw, ha, State.tick, hc]
  rfl

/-! The resolvers (40 R130 to R133). -/

theorem commit_immediate :
    (s.onBus k p p vma).commit immediateCycle1 = (s.setTmp8 (s.mem.read p)).onBus (k + 1) (p + 1) (p + 1) true := rfl

theorem commit_direct :
    (s.onBus k p p vma).commit (directCycle1 dead) =
      (s.setTmp16 (eaDirect (s.mem.read p))).onBus (k + 1) (p + 1) (eaDirect (s.mem.read p)) !dead := rfl

theorem commit_extendedCycle1 :
    (s.onBus k p a vma).commit extendedCycle1 =
      (s.setTmp16 (setHiByte s.tmp16 (s.mem.read a))).onBus (k + 1) (p + 1) (p + 1) true := rfl

theorem commit_extendedCycle2 :
    (s.onBus k p a vma).commit (extendedCycle2 dead) =
      (s.setTmp16 (setLoByte s.tmp16 (s.mem.read a))).onBus (k + 1) (p + 1)
        (joinBytes (hiByte s.tmp16) (s.mem.read a)) !dead := rfl

theorem commit_extended :
    ((s.onBus k p p vma).commit extendedCycle1).commit (extendedCycle2 dead) =
      (s.setTmp16 (joinBytes (s.mem.read p) (s.mem.read (p + 1)))).onBus (k + 1 + 1) (p + 1 + 1)
        (joinBytes (s.mem.read p) (s.mem.read (p + 1))) !dead := by
  rw [commit_extendedCycle1, commit_extendedCycle2, State.setTmp16_tmp16, setLoByte, setHiByte, hiByte_joinBytes]
  rfl

theorem commit_jumpExtended :
    ((s.onBus k p p vma).commit extendedCycle1).commit jumpExtendedCycle2 =
      jumpEffect (.ext (joinBytes (s.mem.read p) (s.mem.read (p + 1)))) s :=
  congrArg (fun t : State => t.endInstr t.addr) (commit_extended s k p vma false)

theorem commit_indexedCycle1 :
    (s.onBus k p a vma).commit indexedCycle1 =
      (s.setTmp16 (zext16 (s.mem.read a))).onBus (k + 1) (p + 1) (p + 1) false := rfl

theorem commit_indexedCycle2 :
    (s.onBus k p a vma).commit indexedCycle2 = (s.setTmp16 (s.tmp16 + s.x)).onBus (k + 1) p a false := rfl

theorem commit_indexed :
    ((s.onBus k p p vma).commit indexedCycle1).commit indexedCycle2 =
      (s.setTmp16 (eaIndexed (s.mem.read p) s)).onBus (k + 1 + 1) (p + 1) (p + 1) false := by
  rw [commit_indexedCycle1, commit_indexedCycle2, eaIndexed, BitVec.add_comm]
  rfl

theorem commit_indexedCycle3 :
    (s.onBus k p a vma).commit (indexedCycle3 dead) = s.onBus (k + 1) p s.tmp16 !dead := rfl

/-! The handlers, from the cycle after the resolver on. -/

theorem readFire_onBus (alu : Alu) (op : ReadOp) (acc : Acc) (v : Byte) :
    readFire alu op acc v (s.onBus k p a vma) = (readFire alu op acc v s).onBus k p a vma := by
  cases acc <;> unfold readFire <;> split <;> rfl

theorem commit_readFireOn (op : ReadOp) (v : State → Byte) :
    (s.onBus k p a vma).commit (fireCycle (readFireOn op v)) =
      (readFire machineAlu op s.instrAcc (v (s.onBus k p a vma)) s).endInstr p := by
  have mem (v : Byte) : (s.onBus k p a vma).committedMem = (readFire machineAlu op s.instrAcc v s).mem := by
    rw [readFire_mem]
    rfl
  rw [State.commit, fireCycle, readFireOn, readFire_onBus, mem]
  rfl

theorem commit_storeStageOn :
    (s.onBus k p a vma).commit storeStageOn =
      { (s.setDout (s.acc s.instrAcc)).onBus (k + 1) p s.tmp16 true with rw := false } := rfl

theorem commit_store (o : StoreOperand) :
    (((s.setTmp16 (o.ea s)).onBus k (s.pc + o.length) a vma).commit storeStageOn).commit storeFinalOn =
      storeEffect machineAlu s.instrAcc o s := by
  rw [commit_storeStageOn]
  rfl

theorem commit_rmwAcc (op : RmwOp) (acc : Acc) :
    (s.onBus k (s.pc + 1) a vma).commit (fireCycle (rmwAccFire machineAlu op acc)) =
      rmwAccEffect machineAlu op acc s := by
  unfold State.commit fireCycle rmwAccEffect rmwAccFire
  generalize op.stores = stores
  cases acc <;> cases stores <;> rfl

theorem commit_rmwComputeCycle (op : RmwOp) :
    let out := op.compute machineAlu (s.mem.read a) s.ccs
    (s.onBus k p a vma).commit (rmwComputeCycle machineAlu op) =
      ((s.setTmp8 out.result).setCcs out.flags).onBus (k + 1) p s.tmp16 false := rfl

theorem commit_rmwMem (op : RmwOp) (o : MemOperand) :
    ((((s.setTmp16 (o.ea s)).onBus k (s.pc + o.length) (o.ea s) true).commit (rmwComputeCycle machineAlu op)).commit
      (rmwStageCycle op)).commit (fireCycle id) = rmwMemEffect machineAlu op o s := by
  rw [commit_rmwComputeCycle]
  unfold rmwMemEffect rmwStageCycle
  generalize op.stores = stores
  cases stores <;> rfl

theorem commit_branchCycle2 :
    (s.onBus k p a vma).commit branchCycle2 = (s.setTmp16 (p + sext16 s.tmp8)).onBus (k + 1) p a true := rfl

theorem commit_branch (rr : Byte) :
    (((s.setTmp8 rr).onBus k (s.pc + 2) a vma).commit branchCycle2).commit branchCycle3 =
      branchEffect (s.instr.extractLsb' 1 3) (s.instr.getLsbD 0) rr s := by
  rw [commit_branchCycle2]
  rfl

theorem commit_indexCycle1 :
    (s.onBus k p a vma).commit indexCycle1 =
      (s.setX (if s.instr.getLsbD 0 then s.x - 1 else s.x + 1)).onBus (k + 1) p s.x false := rfl

theorem commit_indexCycle2 : (s.onBus k p a vma).commit indexCycle2 = s.onBus (k + 1) p s.x false := rfl

theorem commit_index :
    (((s.onBus k (s.pc + 1) a vma).commit indexCycle1).commit indexCycle2).commit (fireCycle (indexFire machineAlu)) =
      indexEffect machineAlu (if s.instr.getLsbD 0 then s.x - 1 else s.x + 1) s := by
  rw [commit_indexCycle1, commit_indexCycle2]
  rfl

end Commit

/-- The rows from cycle 1 on, on a state whose latch holds the opcode at `PC`, give the effect of the opcode with the
operand bytes behind it. -/
theorem Handler.HasMode.foldl_rows (s : State) {h : Handler} (mode : h.HasMode s.mode.toNat) :
    (h.rows s.mode.toNat).foldl State.commit (s.onBus 1 (s.pc + 1) (s.pc + 1) true) =
      (h.action s.instr (s.mem.read (s.pc + 1)) (s.mem.read (s.pc + 2))).effect s := by
  obtain ⟨lt, store, jump⟩ := mode
  unfold action
  rw [show (s.instr.extractLsb' 4 2).toNat = s.mode.toNat from rfl]
  generalize s.mode.toNat = m at lt store jump ⊢
  cases h with
  | noOperation | unrecognised | transferTap | transferTpa | flag => rfl
  | indexStep =>
    simp only [rows, List.foldl, commit_index, Action.effect]
    cases s.instr.getLsbD 0 <;> rfl
  | branch =>
    simp only [rows, List.foldl, commit_immediate, add_one_add_one]
    exact commit_branch ..
  | readModifyWrite op =>
    interval_cases m
    · exact commit_rmwAcc ..
    · exact commit_rmwAcc ..
    · simp only [rows, List.foldl, commit_indexed, commit_indexedCycle3, add_one_add_one]
      exact commit_rmwMem _ _ op (.idx _)
    · simp only [rows, List.foldl, commit_extended, add_one_add_one, add_two_add_one]
      exact commit_rmwMem _ _ op (.ext _)
  | jump =>
    have := jump rfl
    interval_cases m
    · simp only [rows, List.foldl, commit_indexed]
      rfl
    · simp only [rows, List.foldl, commit_jumpExtended, add_one_add_one]
      rfl
  | aluRead op =>
    interval_cases m
    · simp only [rows, List.foldl, commit_immediate, commit_readFireOn, add_one_add_one]
      rfl
    · simp only [rows, List.foldl, commit_direct, commit_readFireOn, add_one_add_one]
      rfl
    · simp only [rows, List.foldl, commit_indexed, commit_indexedCycle3, commit_readFireOn, add_one_add_one]
      rfl
    · simp only [rows, List.foldl, commit_extended, commit_readFireOn, add_one_add_one, add_two_add_one]
      rfl
  | store =>
    have := store rfl
    interval_cases m
    · simp only [rows, List.foldl, commit_direct, add_one_add_one]
      exact commit_store _ _ _ _ (.dir _)
    · simp only [rows, List.foldl, commit_indexed, commit_indexedCycle3, add_one_add_one]
      exact commit_store _ _ _ _ (.idx _)
    · simp only [rows, List.foldl, commit_extended, add_one_add_one, add_two_add_one]
      exact commit_store _ _ _ _ (.ext _)

end Sys2Proof.Machine

namespace Sys2Proof.Proofs

open Sys2Proof.Machine

/-- Settles O14: every effect ends the instruction, and a sequential one past its bytes. -/
theorem everyInstructionEndsAtBoundary : Obligations.EveryInstructionEndsAtBoundary := fun i s =>
  ⟨i.action.effect s, exec_action i s, Action.effect_addr _ _, Action.effect_rw _ _, Action.effect_vma _ _,
    Action.effect_cycle _ _, Action.effect_rst _ _, fun h => by rw [Action.effect_pc, nextPc_action_of_sequential h]⟩

/-- Settles O15: after the fetch the periods do the rows of the dispatched handler, which are the effect of the
decoded instruction. -/
theorem stepIsTheClockPeriodsOfTheInstruction : Obligations.StepIsTheClockPeriodsOfTheInstruction := by
  intro s hb hin
  obtain ⟨hr, hc, -⟩ := s.atBoundary_iff.mp hb
  let t := s.setInstr (s.mem.read s.pc)
  have mode := dispatch_hasMode t
  have length := mode.length_rows
  have le := (dispatch t.instr).endCycle_le t.mode.toNat
  obtain ⟨run, count⟩ := mode.does_rows.clocks (s := t.onBus 1 (s.pc + 1) (s.pc + 1) true) one_ne_zero (by omega) hr
    rfl rfl rfl
  have periods : s.nextInstr.periods = ((dispatch t.instr).rows t.mode.toNat).length + 1 := by
    rw [length]
    exact periods_decodeTriple ..
  rw [periods]
  constructor
  · rw [step_boundary hin hb, exec_action, State.nextInstr, action_decodeTriple, clocks_succ, clock_boundary hb, run]
    exact congrArg _ (mode.foldl_rows t).symm
  · intro k lt
    cases k with
    | zero => rw [clocks_zero, hc]; rfl
    | succ k => rw [clocks_succ, clock_boundary hb, count k (by omega), Nat.add_comm]

/-- Settles O11: the fetch writes the registers, and the memory commits what is on the bus. -/
theorem fetchLatchesOpcodeAndAdvances : Obligations.FetchLatchesOpcodeAndAdvances := by
  intro s hr hc
  rw [clock_fetch hr hc]
  refine ⟨?_, fun hw _ => State.din_of_read hw⟩
  simp [fetchPeriod, State.tick, State.setMem, State.committedMem, hc]

/-- Settles O12: the cases of a step, with the instruction that the decoder reads at `PC`. -/
theorem stepRunsInstructionAtProgramCounter : Obligations.StepRunsInstructionAtProgramCounter := by
  intro s
  refine ⟨fun i rest hb hin h => ?_, fun hb hin => step_period hin hb, fun _ _ => step_level⟩
  rw [step_boundary hin hb, ← eq_nextInstr_of_decode h, streamByte_zero]
  rfl

end Sys2Proof.Proofs
end

section
/-! The 41_alu_contract family. The set and clear functions share one lemma on `aluSetFlag`; CMP and BIT are read off
the laws of the ALU-read effect, which name the ALU function and the write-back of an operation. -/

namespace Sys2Proof.Machine

open Sys2Proof.Claims

/-! ## The contract's flags (41 R164; flag positions: log 11) -/

/-- A set or clear function with the flags of `ccs`, but for flag `k`, which is `b`, writes that flag only. -/
theorem onlyBit_aluSetFlag {ccs : Byte} {i z v c b : Bool} {k : Nat}
    (hc : c = if 0 = k then b else flagC ccs) (hv : v = if 1 = k then b else flagV ccs)
    (hz : z = if 2 = k then b else flagZ ccs) (hn : flagN ccs = if 3 = k then b else flagN ccs)
    (hi : i = if 4 = k then b else flagI ccs) (hh : flagH ccs = if 5 = k then b else flagH ccs) :
    onlyBit (aluSetFlag ccs i z v c).flags ccs k b
  | 0, _ => (flagC_mkFlags ..).trans hc
  | 1, _ => (flagV_mkFlags ..).trans hv
  | 2, _ => (flagZ_mkFlags ..).trans hz
  | 3, _ => (flagN_mkFlags ..).trans hn
  | 4, _ => (flagI_mkFlags ..).trans hi
  | 5, _ => (flagH_mkFlags ..).trans hh

/-- `Z`, `N` and `V` of a logical function or LD with result `r` (41 R172). -/
theorem flags_aluLogic (ccs r : Byte) :
    (flagZ (aluLogic ccs r).flags = true ↔ r = 0) ∧ flagN (aluLogic ccs r).flags = r.msb ∧
      flagV (aluLogic ccs r).flags = false :=
  ⟨by rw [aluLogic, resultFlags, flagZ_mkFlags, beq_iff_eq], flagN_mkFlags .., flagV_mkFlags ..⟩

/-- The reserved bits 7:6 cover none of the six flags (41 R189, R190). -/
theorem getLsbD_withReservedBits (b : Byte) {j : Nat} (hj : j < 6) : (withReservedBits b).getLsbD j = b.getLsbD j := by
  have reserved : ∀ j < 6, (0xC0 : Byte).getLsbD j = false := by decide
  rw [withReservedBits, BitVec.getLsbD_or, reserved j hj, Bool.false_or]

/-! ## CMP and BIT against SUB and AND (42 R200, R202) -/

/-- The instruction of an ALU-read operation on an accumulator. -/
def ReadOp.instr : ReadOp → Acc → ReadOperand → Instr
  | .sub, .A => .suba | .cmp, .A => .cmpa | .sbc, .A => .sbca | .and, .A => .anda | .bit, .A => .bita
  | .lda, .A => .ldaa | .eor, .A => .eora | .adc, .A => .adca | .ora, .A => .oraa | .add, .A => .adda
  | .sub, .B => .subb | .cmp, .B => .cmpb | .sbc, .B => .sbcb | .and, .B => .andb | .bit, .B => .bitb
  | .lda, .B => .ldab | .eor, .B => .eorb | .adc, .B => .adcb | .ora, .B => .orab | .add, .B => .addb

@[simp] theorem action_readInstr (op : ReadOp) (acc : Acc) (o : ReadOperand) :
    (op.instr acc o).action = .read op acc o := by
  cases op <;> cases acc <;> cases o <;> rfl

theorem exec_readInstr (op : ReadOp) (acc : Acc) (o : ReadOperand) (s : State) :
    exec (op.instr acc o) s = .next ((Action.read op acc o).effect s) := by
  rw [exec_action, action_readInstr]

/-- Two ALU-read operations that select the same function leave the same flags. -/
theorem effect_read_ccs_congr {op op' : ReadOp} (func : op.func = op'.func) (acc : Acc) (o : ReadOperand) (s : State) :
    ((Action.read op acc o).effect s).ccs = ((Action.read op' acc o).effect s).ccs := by
  simp only [Action.effect_ccs, Action.nextCcs, func]

/-- An ALU-read operation without a write-back keeps both accumulators. -/
theorem effect_read_acc_of_not_stores {op : ReadOp} (keeps : op.stores = false) (acc q : Acc) (o : ReadOperand)
    (s : State) : ((Action.read op acc o).effect s).acc q = s.acc q := by
  simp [Action.nextAcc, keeps]

end Sys2Proof.Machine

namespace Sys2Proof.Proofs

open Sys2Proof.Machine

/-- Settles O27: one lemma per group of functions, for CMP and BIT the laws of the ALU-read effect. -/
theorem referenceAluMeetsContract : Obligations.ReferenceAluMeetsContract := by
  refine ⟨fun _ _ _ => rfl, fun x y f => ?_, fun x y f => ?_, fun x y f j hj => ?_, fun o s => ?_⟩
  · exact flags_aluLogic f y
  · refine ⟨?_, ?_, ?_, ?_, ?_, ?_, ?_, ?_⟩ <;> exact onlyBit_aluSetFlag rfl rfl rfl rfl rfl rfl
  · exact ⟨getLsbD_withReservedBits x hj, getLsbD_withReservedBits f hj⟩
  · have flags {op op' : ReadOp} (func : op.func = op'.func) := effect_read_ccs_congr func .A o s
    have keeps {op : ReadOp} (h : op.stores = false) := effect_read_acc_of_not_stores h .A .A o s
    exact ⟨_, _, _, _, exec_readInstr .cmp .A o s, exec_readInstr .sub .A o s, flags rfl, keeps rfl,
      exec_readInstr .bit .A o s, exec_readInstr .and .A o s, flags rfl, keeps rfl⟩

end Sys2Proof.Proofs
end

section
/-! The 42_alu_read family. What the reference ALU answers is said once in the arithmetic of numbers (`aluAdd_eq`,
`aluSub_eq`, `aluLogic_eq`), and what an ALU-read leaves once as a whole state (`readEffect_eq`); O29 to O34 are read
off the two. For O53 and O57 the states of an instruction's periods are the runs of its handler's rows
(`periodStates_of_boundary`), and the bus and the reports are read off each. -/

namespace Sys2Proof.Machine

open Sys2Proof.Claims

/-! ## The reference ALU's answers in the arithmetic of numbers (41 R172 to R179; flag positions: log 11) -/

theorem mkFlags_eq_flagVector (h i n z v c : Bool) : mkFlags h i n z v c = flagVector h i n z v c := by
  revert h i n z v c; decide

theorem beq_zero_eq_decide (r : Byte) : (r == 0) = decide (r.toNat = 0) := by
  rw [Bool.eq_iff_iff, beq_iff_eq, decide_eq_true_iff, ← BitVec.toNat_inj]
  rfl

theorem resultFlags_eq_flagsOf (ccs r : Byte) (v c : Bool) : resultFlags ccs r v c = flagsOf ccs r v c := by
  rw [resultFlags, mkFlags_eq_flagVector, msb_eq_decide, beq_zero_eq_decide]
  rfl

theorem aluLogic_eq (ccs r : Byte) : aluLogic ccs r = ⟨r, flagsOf ccs r false (ccs.getLsbD 0)⟩ :=
  congrArg (AluOut.mk r) (resultFlags_eq_flagsOf ..)

/-- Operands of one sign and a sum of the other are a signed overflow. -/
theorem overflows_add {x y r : Byte} {c : Nat} (hc : c ≤ 1) (sum : r.toNat = (x.toNat + y.toNat + c) % 256) :
    (x.msb == y.msb && r.msb != x.msb) = overflows (x.toInt + y.toInt + c) := by
  rw [Bool.eq_iff_iff]
  simp only [overflows, msb_eq_decide, BitVec.toInt_eq_toNat_cond, Bool.and_eq_true, Bool.or_eq_true, beq_iff_eq,
    bne_iff_ne, ne_eq, decide_eq_decide, decide_eq_true_iff]
  omega

/-- Operands of two signs and a difference of the subtrahend's are a signed overflow. -/
theorem overflows_sub {x y r : Byte} {c : Nat} (hc : c ≤ 1) (diff : r.toNat = (x.toNat + 512 - y.toNat - c) % 256) :
    (x.msb != y.msb && r.msb != x.msb) = overflows (x.toInt - y.toInt - c) := by
  rw [Bool.eq_iff_iff]
  simp only [overflows, msb_eq_decide, BitVec.toInt_eq_toNat_cond, Bool.and_eq_true, Bool.or_eq_true,
    bne_iff_ne, ne_eq, decide_eq_decide, decide_eq_true_iff]
  omega

theorem aluAdd_eq (x y ccs : Byte) (c : Bool) :
    aluAdd x y ccs c = ⟨sum8 x y c.toNat, sumFlags ccs x y c.toNat⟩ := by
  have overflow := overflows_add (Bool.toNat_le c) (toNat_aluAdd x y ccs c)
  refine congrArg (AluOut.mk (sum8 x y c.toNat)) ((mkFlags_eq_flagVector ..).trans ?_)
  rw [sumFlags, ← overflow, ← msb_eq_decide, ← beq_zero_eq_decide]
  rfl

theorem result_aluSub (x y ccs : Byte) (c : Bool) : (aluSub x y ccs c).result = diff8 x y c.toNat := by
  have := y.isLt
  refine BitVec.eq_of_toNat_eq ((toNat_aluSub x y ccs c).trans ?_)
  rw [diff8, BitVec.toNat_ofNat]
  omega

theorem aluSub_eq (x y ccs : Byte) (c : Bool) :
    aluSub x y ccs c = ⟨diff8 x y c.toNat, diffFlags ccs x y c.toNat⟩ := by
  have overflow := overflows_sub (Bool.toNat_le c) (toNat_aluSub x y ccs c)
  have borrow : decide ((x.toNat - y.toNat - c.toNat : Int) < 0) = decide (x.toNat < y.toNat + c.toNat) := by
    rw [decide_eq_decide]
    omega
  have result := result_aluSub x y ccs c
  rw [diffFlags, ← result, ← overflow, ← borrow, ← resultFlags_eq_flagsOf]
  rfl

/-! ## The whole next state of an ALU-read (42 R213) -/

theorem afterRead_eq (s : State) (o : ReadOperand) (ccs : Byte) :
    afterRead s o ccs = ((o.latch s).setCcs ccs).endInstr (s.pc + o.length) := by
  cases o with
  | imm | ext => rfl
  | dir dd => rw [ReadOperand.latch, eaDirect_eq]; rfl
  | idx ff => rw [ReadOperand.latch, eaIndexed_eq]; rfl

/-- The effect of an ALU-read: what `afterRead` says, and the result written back if the operation stores. -/
theorem readEffect_eq (op : ReadOp) (acc : Acc) (o : ReadOperand) (s : State) :
    readEffect machineAlu op acc o s =
      let out := machineAlu op.func (s.acc acc) (operand s o) s.ccs
      if op.stores then withAcc (afterRead s o out.flags) acc out.result else afterRead s o out.flags := by
  simp only [readEffect, readFire, value_eq_operand, latch_acc, latch_ccs, afterRead_eq]
  split
  · cases acc <;> rfl
  · rfl

section WholeState

variable {acc : Acc} {o : ReadOperand} {s : State} {r ccs : Byte} (op : ReadOp)
  (alu : machineAlu op.func (s.acc acc) (operand s o) s.ccs = ⟨r, ccs⟩)
include alu

theorem readsInto_of_alu (stores : op.stores = true) : readsInto (op.instr acc o) acc s o r ccs := by
  rw [readsInto, exec_readInstr, Action.effect, readEffect_eq, alu, stores]
  rfl

theorem readsOnly_of_alu (keeps : op.stores = false) : readsOnly (op.instr acc o) s o ccs := by
  rw [readsOnly, exec_readInstr, Action.effect, readEffect_eq, alu, keeps]
  rfl

end WholeState

/-! ## The periods of an instruction one by one (10_state R43, 40 R140) -/

theorem length_periodStates (n : Nat) (s : State) : (periodStates n s).length = n := by
  induction n generalizing s with
  | zero => rfl
  | succ n ih => rw [periodStates, List.length_cons, ih]

theorem getElem_periodStates {n j : Nat} {s : State} (h : j < (periodStates n s).length) :
    (periodStates n s)[j] = clocks j s := by
  induction n generalizing s j with
  | zero => cases h
  | succ n ih =>
    cases j with
    | zero => rfl
    | succ j => exact ih _

/-- A handler that does some rows does the first `j` of them. -/
theorem Handler.Does.take {h : Handler} {m k : Nat} {rows : List (State → State)} (does : h.Does m k rows) (j : Nat) :
    h.Does m k (rows.take j) := by
  induction rows generalizing k j with
  | nil => rwa [List.take_nil]
  | cons row rows ih =>
    cases j with
    | zero => trivial
    | succ j =>
      obtain ⟨does_row, counts, rest⟩ := does
      exact ⟨does_row, fun more => counts fun nil => more (by rw [nil, List.take_nil]), ih rest j⟩

/-- The state after the fetch from a boundary: cycle 1 of the handler that the opcode at `PC` selects. -/
def State.fetched (s : State) : State := (s.setInstr (s.mem.read s.pc)).onBus 1 (s.pc + 1) (s.pc + 1) true

theorem clock_eq_fetched {s : State} (hb : s.atBoundary = true) : clock false s = s.fetched := clock_boundary hb

/-- An instruction ends at a boundary (10_state R45). -/
theorem Action.atBoundary_effect (k : Action) {s : State} (hr : s.rst = 3) : (k.effect s).atBoundary = true :=
  (State.atBoundary_iff _).mpr ⟨by rw [effect_rst, hr], by simp⟩

section Periods

variable {s : State} {h : Handler} {m : Nat} (hb : s.atBoundary = true) (hd : dispatch (streamByte s 0) = h)
  (hm : ((streamByte s 0).extractLsb' 4 2).toNat = m)

include hd hm in
theorem hasMode_of_dispatch : h.HasMode m := by
  subst hd hm
  rw [streamByte_zero]
  exact dispatch_hasMode s.fetched

include hb hd hm

/-- The fetch and `j` cycles do the first `j` rows of the handler's cycle table. -/
theorem clocks_of_boundary {j : Nat} (le : j ≤ h.endCycle m) :
    clocks (j + 1) s = ((h.rows m).take j).foldl State.commit s.fetched := by
  have mode := hasMode_of_dispatch hd hm
  have length : ((h.rows m).take j).length = j := List.length_take_of_le (mode.length_rows ▸ le)
  have := h.endCycle_le m
  obtain ⟨hr, -⟩ := s.atBoundary_iff.mp hb
  rw [streamByte_zero] at hd hm
  obtain ⟨run, -⟩ := (mode.does_rows.take j).clocks (s := s.fetched) one_ne_zero (by omega) hr hd hm rfl
  rw [clocks_succ, clock_eq_fetched hb]
  rwa [length] at run

/-- The states of an instruction's periods: the boundary, and after the fetch the runs of the rows but the last. -/
theorem periodStates_of_boundary :
    periodStates (h.endCycle m + 1) s = s :: (h.rows m).dropLast.scanl State.commit s.fetched := by
  have length := (hasMode_of_dispatch hd hm).length_rows
  obtain ⟨pos, -⟩ := h.cycle_one m
  apply List.ext_getElem
  · rw [length_periodStates, List.length_cons, List.length_scanl, List.length_dropLast]
    omega
  · intro j lt lt'
    rw [getElem_periodStates]
    rw [length_periodStates] at lt
    cases j with
    | zero => rfl
    | succ j =>
      have shorter : min j ((h.rows m).length - 1) = j := by omega
      rw [List.getElem_cons_succ, List.getElem_scanl, List.dropLast_eq_take, List.take_take, shorter]
      exact clocks_of_boundary hb hd hm (by omega)

/-- After its periods the instruction has had its effect. -/
theorem clocks_endCycle_of_boundary :
    clocks (h.endCycle m + 1) s =
      (h.action (streamByte s 0) (streamByte s 1) (streamByte s 2)).effect (s.setInstr (streamByte s 0)) := by
  have mode := hasMode_of_dispatch hd hm
  have all : (h.rows m).take (h.endCycle m) = h.rows m := List.take_of_length_le mode.length_rows.le
  rw [clocks_of_boundary hb hd hm le_rfl, all]
  subst hm
  rw [streamByte_zero] at mode ⊢
  exact mode.foldl_rows (s.setInstr (s.mem.read s.pc))

end Periods

/-! ## What the bus carries (10_state R43, 20_memory R61) -/

theorem bus_of_boundary {s : State} (hb : s.atBoundary = true) : s.bus = busRead s s.pc := by
  obtain ⟨-, -, ha, hw, hv⟩ := s.atBoundary_iff.mp hb
  simp [State.bus, State.din, busRead, ha, hw, hv]

section OnBus

variable (s : State) (k : BitVec 4) (p a : Word) (vma : Bool) (v : Byte) (w : Word)

@[simp] theorem streamByte_one : streamByte s 1 = s.mem.read (s.pc + 1) := rfl
@[simp] theorem streamByte_two : streamByte s 2 = s.mem.read (s.pc + 2) := rfl

@[simp] theorem indexed_setInstr (ff : Byte) : indexed (s.setInstr v) ff = indexed s ff := rfl

@[simp] theorem busRead_setInstr : busRead (s.setInstr v) a = busRead s a := rfl
@[simp] theorem busRead_setTmp8 : busRead (s.setTmp8 v) a = busRead s a := rfl
@[simp] theorem busRead_setTmp16 : busRead (s.setTmp16 w) a = busRead s a := rfl

@[simp] theorem bus_onBus_live : (s.onBus k p a true).bus = busRead s a := rfl
@[simp] theorem bus_onBus_dead : (s.onBus k p a false).bus = busDead a := rfl

/-! Between the two cycles of a resolver. -/

@[simp] theorem bus_commit_extendedCycle1 :
    ((s.onBus k p p vma).commit extendedCycle1).bus = busRead s (p + 1) := rfl
@[simp] theorem bus_commit_indexedCycle1 :
    ((s.onBus k p p vma).commit indexedCycle1).bus = busDead (p + 1) := rfl

end OnBus

/-- The bus trace of an instruction: the opcode fetch, then what the handler's rows put on the bus. -/
theorem busTrace_of_boundary {s : State} {h : Handler} {m : Nat} (hb : s.atBoundary = true)
    (hd : dispatch (streamByte s 0) = h) (hm : ((streamByte s 0).extractLsb' 4 2).toNat = m) :
    busTrace (h.endCycle m + 1) s =
      busRead s s.pc :: ((h.rows m).dropLast.scanl State.commit s.fetched).map State.bus := by
  rw [busTrace, periodStates_of_boundary hb hd hm, List.map_cons, bus_of_boundary hb]

/-! ## The reads and writes that a period reports (20_memory R79) -/

/-- The fetch is not reported. -/
theorem reportedRead_of_cycle_zero {s : State} (hc : s.cycle = 0) : s.reportedRead = none := by
  simp [State.reportedRead, hc]

/-- A period in which the core reads reports no write. -/
theorem reportedWrite_of_read {s : State} (hw : s.rw = true) : s.reportedWrite = none := by
  simp [State.reportedWrite, hw]

/-- A live cycle of an ALU-read in a memory mode reports the byte it reads (20_memory R72). -/
theorem reportedRead_onBus {s : State} {op : ReadOp} {k : BitVec 4} (hd : dispatch s.instr = .aluRead op)
    (hm : s.mode ≠ 0) (hr : s.rst = 3) (hk : k ≠ 0) (p a : Word) :
    (s.onBus k p a true).reportedRead = some (a, s.mem.read a) := by
  have counted : (s.onBus k p a true).discardsRead = false := by
    have hd' : dispatch (s.onBus k p a true).instr = .aluRead op := hd
    have hm' : ((s.onBus k p a true).mode == 0) = false := beq_false_of_ne hm
    rw [State.discardsRead, hd', hm']
    rfl
  have hr' : (s.onBus k p a true).rst = 3 := hr
  have hk' : (s.onBus k p a true).cycle ≠ 0 := hk
  rw [State.reportedRead, counted, hr', bne_iff_ne.mpr hk']
  rfl

end Sys2Proof.Machine

namespace Sys2Proof.Proofs

open Sys2Proof.Machine Sys2Proof.Claims

/-- Settles O29, from the sum and its flags as numbers. -/
theorem addAndAdcStoreSumAndFlags : Obligations.AddAndAdcStoreSumAndFlags := by
  intro o s v
  have add (acc : Acc) := readsInto_of_alu .add (aluAdd_eq (s.acc acc) v s.ccs false) rfl
  have adc (acc : Acc) := readsInto_of_alu .adc (aluAdd_eq (s.acc acc) v s.ccs (flagC s.ccs)) rfl
  exact ⟨add .A, add .B, adc .A, adc .B⟩

/-- Settles O30, from the difference and its flags as numbers. -/
theorem subAndSbcStoreDifferenceAndFlags : Obligations.SubAndSbcStoreDifferenceAndFlags := by
  intro o s v
  have sub (acc : Acc) := readsInto_of_alu .sub (aluSub_eq (s.acc acc) v s.ccs false) rfl
  have sbc (acc : Acc) := readsInto_of_alu .sbc (aluSub_eq (s.acc acc) v s.ccs (flagC s.ccs)) rfl
  exact ⟨sub .A, sub .B, sbc .A, sbc .B⟩

/-- Settles O31: CMP has the function of SUB and no write-back. -/
theorem cmpSetsFlagsOnly : Obligations.CmpSetsFlagsOnly := by
  intro o s
  have cmp (acc : Acc) := readsOnly_of_alu .cmp (aluSub_eq (s.acc acc) (operand s o) s.ccs false) rfl
  exact ⟨cmp .A, cmp .B⟩

/-- Settles O32: the three functions share the flags of `aluLogic`. -/
theorem logicStoresResultAndClearsOverflow : Obligations.LogicStoresResultAndClearsOverflow := by
  intro o s v keep
  have and (acc : Acc) := readsInto_of_alu .and (aluLogic_eq s.ccs (s.acc acc &&& v)) rfl
  have eor (acc : Acc) := readsInto_of_alu .eor (aluLogic_eq s.ccs (s.acc acc ^^^ v)) rfl
  have ora (acc : Acc) := readsInto_of_alu .ora (aluLogic_eq s.ccs (s.acc acc ||| v)) rfl
  exact ⟨and .A, and .B, eor .A, eor .B, ora .A, ora .B⟩

/-- Settles O33: BIT has the function of AND and no write-back. -/
theorem bitTestsWithoutWriting : Obligations.BitTestsWithoutWriting := by
  intro o s
  have bit (acc : Acc) := readsOnly_of_alu .bit (aluLogic_eq s.ccs (s.acc acc &&& operand s o)) rfl
  exact ⟨bit .A, bit .B⟩

/-- Settles O34: LD answers its operand, with the flags of `aluLogic`. -/
theorem loadCopiesOperandAndSetsFlags : Obligations.LoadCopiesOperandAndSetsFlags := by
  intro o s v
  have lda (acc : Acc) := readsInto_of_alu (acc := acc) .lda (aluLogic_eq s.ccs v) rfl
  exact ⟨lda .A, lda .B⟩

/-- Settles O53: the three states are the boundary, the fetched state and the one after the resolver, and the third
period completes the effect. -/
theorem directReadTakesThreePeriodsAndTwoReads : Obligations.DirectReadTakesThreePeriodsAndTwoReads := by
  intro s op hb hd hm ea
  obtain ⟨hr, hc, -, hw, -⟩ := s.atBoundary_iff.mp hb
  have mode_ne : (streamByte s 0).extractLsb' 4 2 ≠ 0 := by rw [hm]; decide
  have mode : ((streamByte s 0).extractLsb' 4 2).toNat = 1 := congrArg BitVec.toNat hm
  let t := ((s.setInstr (s.mem.read s.pc)).setTmp16 ea).onBus 2 (s.pc + 1 + 1) ea true
  have second : s.fetched.commit (directCycle1 false) = t := by
    rw [State.fetched, commit_direct, eaDirect_eq]
    rfl
  have states : periodStates 3 s = [s, s.fetched, t] := by
    rw [← second]
    exact periodStates_of_boundary hb hd mode
  have one : clocks 1 s = s.fetched := clock_eq_fetched hb
  have two : clocks 2 s = t := (clocks_of_boundary (j := 1) hb hd mode one_le_two).trans second
  have three : clocks 3 s = _ := clocks_endCycle_of_boundary hb hd mode
  rw [Handler.action, mode] at three
  rw [streamByte_zero] at hd mode_ne
  have operandRead : s.fetched.reportedRead = some (s.pc + 1, streamByte s 1) :=
    reportedRead_onBus (s := s.setInstr (s.mem.read s.pc)) hd mode_ne hr (by decide) ..
  have dataRead : t.reportedRead = some (ea, s.mem.read ea) :=
    reportedRead_onBus (s := (s.setInstr (s.mem.read s.pc)).setTmp16 ea) hd mode_ne hr (by decide) ..
  refine ⟨?_, ?_, ?_, ?_, congrArg State.cycle one, congrArg State.cycle two⟩
  · simp only [reportedReads, states, List.filterMap, reportedRead_of_cycle_zero hc, operandRead, dataRead]
  · simp only [reportedWrites, states, List.filterMap, reportedWrite_of_read hw]
    rfl
  · rw [three]
    exact Action.atBoundary_effect _ hr
  · rw [three, Action.effect_pc]
    rfl

/-- Settles O57: the rows of the four modes, each state's bus read off. -/
theorem aluReadBusTraces : Obligations.AluReadBusTraces := by
  intro s op hb hd p idx ext
  have trace {m : BitVec 2} (hm : (streamByte s 0).extractLsb' 4 2 = m) :=
    busTrace_of_boundary hb hd (congrArg BitVec.toNat hm)
  refine ⟨fun hm => (trace hm).trans ?_, fun hm => (trace hm).trans ?_, fun hm => (trace hm).trans ?_,
    fun hm => (trace hm).trans ?_⟩
  · simp [Handler.rows, State.fetched, commit_immediate, BitVec.add_assoc, p]
  · simp [Handler.rows, State.fetched, commit_direct, eaDirect_eq, p]
  · simp [Handler.rows, State.fetched, commit_indexed, commit_indexedCycle3, eaIndexed_eq, BitVec.add_assoc, p, idx]
  · simp [Handler.rows, State.fetched, commit_extended, BitVec.add_assoc, p, ext]

end Sys2Proof.Proofs
end

section
/-! The 43_alu_rmw family. What the machine's ALU answers for an operation is said once in the arithmetic of numbers
(`RmwOp.compute_neg` and on), from the results of the 20_memory family; what an operation that stores leaves on an
accumulator or on a memory byte is said once as a whole state (`modifies_of_compute`); O35 to O42 are read off the two.
The frame of memory is a law of the effects (`Action.read_nextMem`), and O58 reads the bus off the rows. -/

namespace Sys2Proof.Machine

open Sys2Proof.Claims

/-! ## The memory frame of an effect (95 Part 4) -/

/-- The address an effect stores to, if it stores. -/
def Action.storeAddress : Action → State → Option Word
  | .rmwMem op o, s => if op.stores then some (o.ea s) else none
  | .store _ o, s => some (o.ea s)
  | _, _ => none

@[simp] theorem storeAddress_action (i : Instr) (s : State) : i.action.storeAddress s = storeAddress s i := by
  cases i <;> rfl

theorem Action.read_nextMem {k : Action} {s : State} {a : Word} (mem : s.mem.wf = true)
    (outside : k.storeAddress s ≠ some a) : (k.nextMem s).read a = s.mem.read a := by
  cases k with
  | store acc o =>
    rw [storeAddress, ne_eq, Option.some_inj] at outside
    exact Memory.read_write_other mem _ (Ne.symm outside)
  | rmwMem op o =>
    rw [storeAddress] at outside
    rw [nextMem]
    split
    · rw [if_pos ‹_›, ne_eq, Option.some_inj] at outside
      exact Memory.read_write_other mem _ (Ne.symm outside)
    · rfl
  | _ => rfl

/-! ## The ALU's answers in the arithmetic of numbers (43 R230; the reference ALU: log 9) -/

/-- The bit that a shift to the right takes out. -/
theorem getLsbD_zero_eq_decide (v : Byte) : v.getLsbD 0 = decide (v.toNat % 2 = 1) := v.toNat.testBit_zero

/-- The bit that a shift to the left takes out. -/
theorem getLsbD_seven_eq_decide (v : Byte) : v.getLsbD 7 = decide (128 ≤ v.toNat) := v.getLsbD_last

/-- An answer whose flags are those of its result, given as numbers. -/
theorem eq_flagsOf_of_flags {out : AluOut} {ccs r : Byte} {v c : Bool} (result : out.result = r)
    (flags : out.flags = resultFlags ccs out.result v c) : out = ⟨r, flagsOf ccs r v c⟩ := by
  subst result
  rw [← resultFlags_eq_flagsOf, ← flags]

/-- The answer of a shift whose result has the sign `n`: `V = N xor C` (41 R183 to R187). -/
theorem eq_flagsOf_of_shift {out : AluOut} {ccs r : Byte} {n c : Bool} (result : out.result = r)
    (shift : out = aluShift ccs out.result c) (sign : decide (128 ≤ r.toNat) = n) :
    out = ⟨r, flagsOf ccs r (n ^^ c) c⟩ := by
  refine eq_flagsOf_of_flags result ((congrArg AluOut.flags shift).trans ?_)
  rw [← sign, ← result, ← msb_eq_decide]
  rfl

namespace RmwOp

variable (v ccs : Byte)

theorem compute_neg : neg.compute machineAlu v ccs =
    ⟨diff8 0 v 0, flagsOf ccs (diff8 0 v 0) (decide (v.toNat = 128)) (decide (v.toNat ≠ 0))⟩ := by
  have overflow : overflows (0 - v.toInt - 0) = decide (v.toNat = 128) := by
    rw [Bool.eq_iff_iff]
    simp only [overflows, BitVec.toInt_eq_toNat_cond, Bool.or_eq_true, decide_eq_true_iff]
    omega
  have borrow : decide ((0 : Byte).toNat < v.toNat + 0) = decide (v.toNat ≠ 0) :=
    decide_eq_decide.mpr Nat.pos_iff_ne_zero
  rw [← overflow, ← borrow]
  exact aluSub_eq 0 v ccs false

theorem compute_com : com.compute machineAlu v ccs =
    ⟨BitVec.ofNat 8 (255 - v.toNat), flagsOf ccs (BitVec.ofNat 8 (255 - v.toNat)) false true⟩ :=
  eq_flagsOf_of_flags (result_com v ccs) rfl

theorem compute_lsr : lsr.compute machineAlu v ccs =
    ⟨BitVec.ofNat 8 (v.toNat / 2),
      flagsOf ccs (BitVec.ofNat 8 (v.toNat / 2)) (decide (v.toNat % 2 = 1)) (decide (v.toNat % 2 = 1))⟩ := by
  have sign : decide (128 ≤ (BitVec.ofNat 8 (v.toNat / 2)).toNat) = false := by
    rw [decide_eq_false_iff_not, BitVec.toNat_ofNat]
    omega
  have shift := eq_flagsOf_of_shift (c := v.getLsbD 0) (result_lsr v ccs) rfl sign
  rwa [Bool.false_xor, getLsbD_zero_eq_decide] at shift

theorem compute_asr : asr.compute machineAlu v ccs =
    ⟨BitVec.ofInt 8 (v.toInt / 2), flagsOf ccs (BitVec.ofInt 8 (v.toInt / 2))
      (decide (v.toInt < 0) ^^ decide (v.toNat % 2 = 1)) (decide (v.toNat % 2 = 1))⟩ := by
  have sign : decide (128 ≤ (BitVec.ofInt 8 (v.toInt / 2)).toNat) = decide (v.toInt < 0) := by
    rw [decide_eq_decide, BitVec.toNat_ofInt, BitVec.toInt_eq_toNat_cond]
    omega
  rw [← getLsbD_zero_eq_decide]
  exact eq_flagsOf_of_shift (result_asr v ccs) rfl sign

theorem compute_asl : asl.compute machineAlu v ccs =
    ⟨BitVec.ofNat 8 (2 * v.toNat),
      flagsOf ccs (BitVec.ofNat 8 (2 * v.toNat)) (overflows (2 * v.toInt)) (decide (128 ≤ v.toNat))⟩ := by
  have overflow : (decide (128 ≤ (BitVec.ofNat 8 (2 * v.toNat)).toNat) ^^ v.getLsbD 7) = overflows (2 * v.toInt) := by
    rw [getLsbD_seven_eq_decide, Bool.eq_iff_iff]
    simp only [overflows, BitVec.toInt_eq_toNat_cond, BitVec.toNat_ofNat, Bool.or_eq_true, bne_iff_ne, ne_eq,
      decide_eq_decide, decide_eq_true_iff]
    omega
  rw [← getLsbD_seven_eq_decide, ← overflow]
  exact eq_flagsOf_of_shift (result_asl v ccs) rfl rfl

theorem compute_rol : rol.compute machineAlu v ccs =
    ⟨BitVec.ofNat 8 (2 * v.toNat + carry ccs), flagsOf ccs (BitVec.ofNat 8 (2 * v.toNat + carry ccs))
      (decide (128 ≤ 2 * v.toNat % 256) ^^ decide (128 ≤ v.toNat)) (decide (128 ≤ v.toNat))⟩ := by
  have bit : carry ccs ≤ 1 := toNat_flagC_le ccs
  have sign : decide (128 ≤ (BitVec.ofNat 8 (2 * v.toNat + carry ccs)).toNat) =
      decide (128 ≤ 2 * v.toNat % 256) := by
    rw [decide_eq_decide, BitVec.toNat_ofNat]
    omega
  rw [← getLsbD_seven_eq_decide]
  exact eq_flagsOf_of_shift (result_rol v ccs) rfl sign

theorem compute_ror : ror.compute machineAlu v ccs =
    ⟨BitVec.ofNat 8 (128 * carry ccs + v.toNat / 2), flagsOf ccs (BitVec.ofNat 8 (128 * carry ccs + v.toNat / 2))
      (decide (carry ccs = 1) ^^ decide (v.toNat % 2 = 1)) (decide (v.toNat % 2 = 1))⟩ := by
  have bit : carry ccs ≤ 1 := toNat_flagC_le ccs
  have sign : decide (128 ≤ (BitVec.ofNat 8 (128 * carry ccs + v.toNat / 2)).toNat) = decide (carry ccs = 1) := by
    rw [decide_eq_decide, BitVec.toNat_ofNat]
    omega
  rw [← getLsbD_zero_eq_decide]
  exact eq_flagsOf_of_shift (result_ror v ccs) rfl sign

theorem compute_inc : inc.compute machineAlu v ccs =
    ⟨BitVec.ofNat 8 (v.toNat + 1),
      flagsOf ccs (BitVec.ofNat 8 (v.toNat + 1)) (decide (v.toNat = 127)) (ccs.getLsbD 0)⟩ := by
  have overflow : (v + 1 == 0x80) = decide (v.toNat = 127) := by
    rw [Bool.eq_iff_iff, beq_iff_eq, decide_eq_true_iff]
    bv_omega
  rw [← overflow]
  exact eq_flagsOf_of_flags (result_inc v ccs) rfl

theorem compute_dec : dec.compute machineAlu v ccs =
    ⟨BitVec.ofNat 8 (v.toNat + 255),
      flagsOf ccs (BitVec.ofNat 8 (v.toNat + 255)) (decide (v.toNat = 128)) (ccs.getLsbD 0)⟩ := by
  have overflow : (v - 1 == 0x7F) = decide (v.toNat = 128) := by
    rw [Bool.eq_iff_iff, beq_iff_eq, decide_eq_true_iff]
    bv_omega
  rw [← overflow]
  exact eq_flagsOf_of_flags (result_dec v ccs) rfl

/-- TST subtracts zero. -/
theorem compute_tst : tst.compute machineAlu v ccs = ⟨v, flagsOf ccs v false false⟩ := by
  have result : (aluSub v 0 ccs false).result = v := by simp [aluSub]
  have noBorrow : ¬(v.toNat : Int) < 0 := by omega
  have flags : (aluSub v 0 ccs false).flags = resultFlags ccs (aluSub v 0 ccs false).result false false := by
    simp [aluSub, noBorrow]
  exact eq_flagsOf_of_flags result flags

/-- CLR subtracts the operand from itself. -/
theorem compute_clr : clr.compute machineAlu v ccs =
    ⟨0x00, flagVector (ccs.getLsbD 5) (ccs.getLsbD 4) false true false false⟩ := by
  have flags : (aluSub v v ccs false).flags = resultFlags ccs (aluSub v v ccs false).result false false := by
    simp [aluSub]
  exact eq_flagsOf_of_flags (result_clr v ccs) flags

end RmwOp

/-! ## The whole next state of an operation (43 R231, R244) -/

/-- The inherent forms of the read-modify-write family (30_encoding R103). -/
def RmwOp.onAcc : RmwOp → Acc → Instr
  | .neg, .A => .nega | .com, .A => .coma | .lsr, .A => .lsra | .ror, .A => .rora | .asr, .A => .asra
  | .asl, .A => .asla | .rol, .A => .rola | .dec, .A => .deca | .inc, .A => .inca | .tst, .A => .tsta
  | .clr, .A => .clra
  | .neg, .B => .negb | .com, .B => .comb | .lsr, .B => .lsrb | .ror, .B => .rorb | .asr, .B => .asrb
  | .asl, .B => .aslb | .rol, .B => .rolb | .dec, .B => .decb | .inc, .B => .incb | .tst, .B => .tstb
  | .clr, .B => .clrb

@[simp] theorem action_onAcc (op : RmwOp) (acc : Acc) : (op.onAcc acc).action = .rmwAcc op acc := by
  cases op <;> cases acc <;> rfl

theorem length_eq_memLength (o : MemOperand) : o.length = memLength o := by cases o <;> rfl

section WholeState

variable (op : RmwOp) (s : State)

/-- An inherent operation: the flags, and the result written back if the operation stores. -/
theorem exec_onAcc (acc : Acc) :
    let out := op.compute machineAlu (s.acc acc) s.ccs
    let ended := endedAt { s with ccs := out.flags } (s.pc + 1)
    exec (op.onAcc acc) s = .next (if op.stores then withAcc ended acc out.result else ended) := by
  rw [exec_action, action_onAcc, Action.effect, rmwAccEffect, rmwAccFire]
  split
  · cases acc <;> rfl
  · rfl

/-- A memory operation: all but the memory. -/
theorem exec_onMem (o : MemOperand) :
    let out := op.compute machineAlu (s.mem.read (o.ea s)) s.ccs
    exec (op.onMem o) s = .next (endedAt
      { s with mem := (Action.rmwMem op o).nextMem s, ccs := out.flags, tmp8 := out.result, tmp16 := o.ea s,
               dout := out.result } (s.pc + memLength o)) := by
  rw [exec_action, action_onMem, ← length_eq_memLength]
  rfl

end WholeState

/-- An operation that stores, on `A`, on `B` and on a memory byte, from the ALU's answer for every operand. -/
theorem modifies_of_compute {res flags : State → Byte → Byte} (op : RmwOp) (stores : op.stores = true)
    (compute : ∀ s v, op.compute machineAlu v s.ccs = ⟨res s v, flags s v⟩) :
    modifies (op.onAcc .A) (op.onAcc .B) op.onMem res flags := by
  intro s
  have inherent (acc : Acc) : operatesOn (op.onAcc acc) acc s (res s (s.acc acc)) (flags s (s.acc acc)) := by
    rw [operatesOn, exec_onAcc, compute, if_pos stores]
  refine ⟨inherent .A, inherent .B, fun mem o => ⟨_, exec_onMem op s o, ?_, ?_, fun a ne => ?_⟩⟩
  · rw [compute]
    rfl
  · change ((Action.rmwMem op o).nextMem s).read (o.ea s) = _
    rw [Action.nextMem, if_pos stores, Memory.read_write_same mem, compute]
  · refine Action.read_nextMem (k := .rmwMem op o) mem ?_
    rw [Action.storeAddress, if_pos stores, ne_eq, Option.some_inj]
    exact Ne.symm ne

/-! ## The write on the bus (43 R232) -/

theorem RmwOp.stores_eq_false_iff {op : RmwOp} : op.stores = false ↔ op = .tst := by cases op <;> decide

/-- After the dead cycle the bus carries the write of `TMP8`, for TST another dead cycle (92 D16). -/
theorem bus_commit_rmwStageCycle (op : RmwOp) (s : State) (k : BitVec 4) (p a : Word) (vma : Bool) :
    ((s.onBus k p a vma).commit (rmwStageCycle op)).bus =
      if op = .tst then busDead s.tmp16 else busWrite s.tmp16 s.tmp8 := by
  simp only [← RmwOp.stores_eq_false_iff, State.commit, rmwStageCycle]
  cases op.stores <;> rfl

end Sys2Proof.Machine

namespace Sys2Proof.Proofs

open Sys2Proof.Machine Sys2Proof.Claims

/-- Settles O20: an effect leaves every byte but the one it stores to. -/
theorem onlyStoreAddressChangesInMemory : Obligations.OnlyStoreAddressChangesInMemory := by
  intro i s mem
  refine ⟨_, exec_action i s, fun a outside => ?_⟩
  rw [Action.effect_mem]
  exact Action.read_nextMem mem (by rwa [storeAddress_action])

/-- Settles O35: NEG subtracts the operand from zero. -/
theorem negNegatesOperand : Obligations.NegNegatesOperand :=
  modifies_of_compute .neg rfl fun s v => RmwOp.compute_neg v s.ccs

/-- Settles O36: COM answers the complement with `V` cleared and `C` set. -/
theorem comComplementsOperand : Obligations.ComComplementsOperand :=
  modifies_of_compute .com rfl fun s v => RmwOp.compute_com v s.ccs

/-- Settles O37: the sign of the half is 0 for LSR and the operand's for ASR. -/
theorem rightShiftsHalveOperand : Obligations.RightShiftsHalveOperand :=
  ⟨modifies_of_compute .lsr rfl fun s v => RmwOp.compute_lsr v s.ccs,
    modifies_of_compute .asr rfl fun s v => RmwOp.compute_asr v s.ccs⟩

/-- Settles O38: the double overflows when its sign is not the operand's. -/
theorem aslDoublesOperand : Obligations.AslDoublesOperand :=
  modifies_of_compute .asl rfl fun s v => RmwOp.compute_asl v s.ccs

/-- Settles O39: the sign is bit 6 of the operand for ROL and the carry for ROR. -/
theorem rotatesTurnThroughCarry : Obligations.RotatesTurnThroughCarry :=
  ⟨modifies_of_compute .rol rfl fun s v => RmwOp.compute_rol v s.ccs,
    modifies_of_compute .ror rfl fun s v => RmwOp.compute_ror v s.ccs⟩

/-- Settles O40: INC overflows at the largest signed operand, DEC at the smallest. -/
theorem incAndDecStepOperandKeepingCarry : Obligations.IncAndDecStepOperandKeepingCarry :=
  ⟨modifies_of_compute .inc rfl fun s v => RmwOp.compute_inc v s.ccs,
    modifies_of_compute .dec rfl fun s v => RmwOp.compute_dec v s.ccs⟩

/-- Settles O41: TST stores nothing, and the ALU answers its operand. -/
theorem tstSetsFlagsAndWritesNothing : Obligations.TstSetsFlagsAndWritesNothing := by
  intro s
  have inherent (acc : Acc) : exec (RmwOp.tst.onAcc acc) s =
      .next (endedAt { s with ccs := flagsOf s.ccs (s.acc acc) false false } (s.pc + 1)) := by
    rw [exec_onAcc, RmwOp.compute_tst]
    rfl
  refine ⟨inherent .A, inherent .B, fun o => (exec_onMem .tst s o).trans ?_⟩
  rw [RmwOp.compute_tst]
  rfl

/-- Settles O42: CLR subtracts the operand from itself. -/
theorem clrClearsWhateverTheOperand : Obligations.ClrClearsWhateverTheOperand :=
  modifies_of_compute .clr rfl fun s v => RmwOp.compute_clr v s.ccs

/-- Settles O58: the rows of the two memory modes, each state's bus read off. -/
theorem readModifyWriteBusTraces : Obligations.ReadModifyWriteBusTraces := by
  intro s op hb hd p idx ext last
  have trace {m : BitVec 2} (hm : (streamByte s 0).extractLsb' 4 2 = m) :=
    busTrace_of_boundary hb hd (congrArg BitVec.toNat hm)
  refine ⟨fun hm => (trace hm).trans ?_, fun hm => (trace hm).trans ?_⟩
  · simp [Handler.rows, State.fetched, commit_indexed, commit_indexedCycle3, commit_rmwComputeCycle,
      bus_commit_rmwStageCycle, eaIndexed_eq, BitVec.add_assoc, p, idx, last]
  · simp [Handler.rows, State.fetched, commit_extended, commit_rmwComputeCycle, bus_commit_rmwStageCycle,
      BitVec.add_assoc, p, ext, last]

end Sys2Proof.Proofs
end

section
/-! The 44_branch family. A branch is tied once to its row of the condition table (`branchesWhen_of_table`, O43), and the
flags of a comparison are said once as orders (`flags_diffFlags`); O44 is read off the two. For O60 the bus traces of the
rows are followed by the next fetch where memory is kept (`busTrace_next_of_boundary`), and O54 takes its trace from
O60. -/

namespace Sys2Proof.Machine

open Sys2Proof.Claims

/-! ## The condition table (44 R261, R279) -/

/-- The branch target as a number: past the two bytes, by the signed displacement (44 R279). -/
theorem branchTarget_eq (p : Word) (rr : Byte) : branchTarget p rr = BitVec.ofInt 16 (p.toNat + 2 + rr.toInt) := by
  rw [BitVec.ofInt_add, BitVec.ofInt_add, BitVec.ofInt_natCast, BitVec.ofNat_toNat]
  rfl

/-- The condition of a branch is a function of `N`, `Z`, `V` and `C`. -/
theorem branchTaken_eq_mkFlags (sel : BitVec 3) (inv : Bool) (ccs : Byte) :
    branchTaken sel inv ccs =
      branchTaken sel inv (mkFlags false false (flagN ccs) (flagZ ccs) (flagV ccs) (flagC ccs)) := by
  simp [branchTaken, baseCondition]

/-- A branch whose row of the condition table is `cond` does what `branchesWhen` says. -/
theorem branchesWhen_of_table {i : Byte → Instr} {sel : BitVec 3} {inv : Bool} {cond : Bool → Bool → Bool → Bool → Bool}
    (action : ∀ rr, (i rr).action = .branch sel inv rr)
    (table : ∀ n z v c, branchTaken sel inv (mkFlags false false n z v c) = cond n z v c) : branchesWhen i cond := by
  intro rr s target
  rw [exec_action, action, Action.effect, branchEffect, branchTaken_eq_mkFlags, table, branchTarget_eq]
  rfl

/-! ## A branch after a comparison (44 R265 to R278) -/

theorem takenIff_of_branchesWhen {i : Byte → Instr} {cond : Bool → Bool → Bool → Bool → Bool} (h : branchesWhen i cond)
    {t : State} {P : Prop} (decides : cond (flagN t.ccs) (flagZ t.ccs) (flagV t.ccs) (flagC t.ccs) = true ↔ P) :
    takenIff i t P := by
  intro rr
  refine ⟨_, h rr t, fun p => ?_, fun np => ?_⟩
  · exact (if_pos (decides.mpr p)).trans (branchTarget_eq ..).symm
  · exact if_neg (mt decides.mp np)

/-- The flags of a comparison: `N` is the signed order, turned by the overflow. -/
theorem flags_diffFlags (ccs x y : Byte) :
    let f := diffFlags ccs x y 0
    flagN f = (decide (x.toInt < y.toInt) ^^ flagV f) ∧ flagZ f = decide (x = y) ∧
      flagC f = decide (x.toNat < y.toNat) := by
  have diff : (diff8 x y 0).toNat = (x.toNat + 256 - y.toNat + 256 - 0) % 256 := BitVec.toNat_ofNat ..
  simp only [diffFlags, flagsOf, ← mkFlags_eq_flagVector, flagN_mkFlags, flagZ_mkFlags, flagV_mkFlags, flagC_mkFlags]
  refine ⟨?_, ?_, rfl⟩
  · rw [Bool.eq_iff_iff]
    simp only [overflows, BitVec.toInt_eq_toNat_cond, ← Bool.decide_or, bne_iff_ne, ne_eq, decide_eq_decide,
      decide_eq_true_iff]
    omega
  · rw [decide_eq_decide, ← BitVec.toNat_inj]
    omega

/-- A branch after a comparison of `x` with `y` is decided by their signed order, their equality and their unsigned
order, whatever the overflow flag is. -/
theorem takenIff_of_compare {i : Byte → Instr} {cond : Bool → Bool → Bool → Bool → Bool} (h : branchesWhen i cond)
    {t : State} {ccs x y : Byte} {P : Prop} (flags : t.ccs = diffFlags ccs x y 0)
    (decides : ∀ v, cond (decide (x.toInt < y.toInt) ^^ v) (decide (x = y)) v (decide (x.toNat < y.toNat)) = true ↔ P) :
    takenIff i t P := by
  obtain ⟨n, z, c⟩ := flags_diffFlags ccs x y
  refine takenIff_of_branchesWhen h ?_
  rw [flags, n, z, c]
  exact decides _

/-! ## The bus past the end of an instruction (10_state R43, R45) -/

theorem periodStates_succ (n : Nat) (s : State) : periodStates (n + 1) s = periodStates n s ++ [clocks n s] := by
  induction n generalizing s with
  | zero => rfl
  | succ n ih =>
    rw [periodStates, ih]
    rfl

theorem busTrace_succ (n : Nat) (s : State) : busTrace (n + 1) s = busTrace n s ++ [(clocks n s).bus] := by
  rw [busTrace, periodStates_succ, List.map_append]
  rfl

/-- An effect that keeps memory is followed by the fetch at its next address. -/
theorem Action.bus_effect {k : Action} {s : State} (hr : s.rst = 3) (keeps : k.nextMem s = s.mem) :
    (k.effect s).bus = busRead s (k.nextPc s) := by
  rw [bus_of_boundary (atBoundary_effect k hr), effect_pc, busRead, effect_mem, keeps]
  rfl

/-- The effect of an inherent read-modify-write opcode; `MODE` is the accumulator (43 R231). -/
theorem Handler.action_readModifyWrite {op : RmwOp} {b0 b1 b2 : Byte} {m : Nat} (hm : (b0.extractLsb' 4 2).toNat = m)
    (inherent : m < 2) :
    (Handler.readModifyWrite op).action b0 b1 b2 = .rmwAcc op (if m = 0 then .A else .B) := by
  rw [action, hm]
  interval_cases m <;> rfl

/-- The effect of a jump opcode (46 R301). -/
theorem Handler.action_jump {b0 b1 b2 : Byte} {m : Nat} (hm : (b0.extractLsb' 4 2).toNat = m) :
    Handler.jump.action b0 b1 b2 = .jump (if m = 2 then .idx b1 else .ext (joinBytes b1 b2)) := by
  rw [action, hm]

section NextFetch

variable {s : State} {h : Handler} {m : Nat} {k : Action} (hb : s.atBoundary = true)
  (hd : dispatch (streamByte s 0) = h) (hm : ((streamByte s 0).extractLsb' 4 2).toNat = m)
  (hk : h.action (streamByte s 0) (streamByte s 1) (streamByte s 2) = k) (keeps : ∀ t, k.nextMem t = t.mem)
include hb hd hm hk keeps

/-- The bus trace of an instruction that keeps memory, and after it the fetch at the effect's next address. -/
theorem busTrace_next_of_boundary :
    busTrace (h.endCycle m + 2) s =
      busRead s s.pc :: ((h.rows m).dropLast.scanl State.commit s.fetched).map State.bus ++
        [busRead s (k.nextPc (s.setInstr (streamByte s 0)))] := by
  obtain ⟨hr, -⟩ := s.atBoundary_iff.mp hb
  rw [busTrace_succ, busTrace_of_boundary hb hd hm, clocks_endCycle_of_boundary hb hd hm, hk,
    Action.bus_effect (s := s.setInstr (streamByte s 0)) hr (keeps _)]
  rfl

/-- A one-byte instruction of two periods: cycle 1 reads the next byte and discards it, the next fetch reads it again
(47 R310). -/
theorem busTrace_of_oneByte (twoPeriods : h.endCycle m = 1) (nextPc : ∀ t, k.nextPc t = t.pc + 1) :
    busTrace 3 s = [busRead s s.pc, busRead s (s.pc + 1), busRead s (s.pc + 1)] := by
  have onlyRow : (h.rows m).dropLast = [] := by
    rw [← List.length_eq_zero_iff, List.length_dropLast, (hasMode_of_dispatch hd hm).length_rows, twoPeriods]
  have next := busTrace_next_of_boundary hb hd hm hk keeps
  rwa [onlyRow, nextPc, twoPeriods] at next

end NextFetch

/-! ## The write on the bus of a store (45 R291) -/

theorem State.acc_instrAcc (s : State) : s.acc s.instrAcc = if s.instr.getLsbD 6 then s.b else s.a := by
  unfold State.instrAcc
  split <;> rfl

@[simp] theorem bus_commit_storeStageOn (s : State) (k : BitVec 4) (p a : Word) (vma : Bool) :
    ((s.onBus k p a vma).commit storeStageOn).bus = busWrite s.tmp16 (s.acc s.instrAcc) := rfl

/-! ## Branch always (44 R263, R281) -/

/-- From a boundary the end of an instruction changes the program counter and the address. -/
theorem State.endInstr_of_boundary {s : State} (hb : s.atBoundary = true) (p : Word) :
    s.endInstr p = { s with pc := p, addr := p } := by
  obtain ⟨-, hc, -, hw, hv⟩ := s.atBoundary_iff.mp hb
  simp [endInstr, hc, hw, hv]

/-- The step that runs opcode 0x20, and its four periods (44 R263). -/
theorem step_bra_of_boundary {s : State} {target : Word} (hb : s.atBoundary = true) (hin : s.rstIn = [])
    (opcode : streamByte s 0 = 0x20) (ht : branchTarget s.pc (streamByte s 1) = target) :
    let t : State :=
      { s with pc := target, addr := target, tmp8 := streamByte s 1, tmp16 := target, instr := 0x20 }
    step s = .next t ∧ clocks 4 s = t := by
  intro t
  obtain ⟨periods, -⟩ := Proofs.stepIsTheClockPeriodsOfTheInstruction s hb hin
  rw [streamByte_zero] at opcode
  have instr : s.nextInstr = .bra (streamByte s 1) := by
    rw [State.nextInstr, opcode]
    rfl
  have always : branchTaken 0 false s.ccs = true := rfl
  have ended : step s = .next t := by
    rw [step_boundary hin hb, instr, opcode, exec_action, Instr.action, Action.effect, branchEffect, State.setInstr_ccs,
      if_pos always]
    subst ht
    exact congrArg _ (State.endInstr_of_boundary (s := ((s.setInstr 0x20).setTmp8 _).setTmp16 _) hb _)
  rw [instr] at periods
  exact ⟨ended, Host.Outcome.next.inj (periods.symm.trans ended)⟩

end Sys2Proof.Machine

namespace Sys2Proof.Proofs

open Sys2Proof.Machine Sys2Proof.Claims

/-- Settles O43: the sixteen rows of the condition table. -/
theorem branchesFollowConditionTable : Obligations.BranchesFollowConditionTable := by
  refine ⟨?_, ?_, ?_, ?_, ?_, ?_, ?_, ?_, ?_, ?_, ?_, ?_, ?_, ?_, ?_, ?_⟩ <;>
    exact branchesWhen_of_table (fun _ => rfl) (by decide)

/-- Settles O44: the condition table on the flags that CMPA leaves. -/
theorem branchAfterCompareDecidesOrder : Obligations.BranchAfterCompareDecidesOrder := by
  intro o s
  obtain ⟨cmpa, -⟩ := cmpSetsFlagsOnly o s
  refine ⟨_, cmpa, ?_⟩
  intro v
  obtain ⟨-, -, hi, ls, cc, cs, ne, eq, -, -, -, -, ge, lt, gt, le⟩ := branchesFollowConditionTable
  have flags : (afterRead s o (diffFlags s.ccs s.a v 0)).ccs = diffFlags s.ccs s.a v 0 := by cases o <;> rfl
  have signed : s.a = v ↔ s.a.toInt = v.toInt := BitVec.toInt_inj.symm
  have unsigned : s.a = v ↔ s.a.toNat = v.toNat := BitVec.toNat_inj.symm
  have agree : ∀ less overflow : Bool, ((less ^^ overflow) == overflow) = !less := by decide
  refine ⟨takenIff_of_compare hi flags fun _ => ?_, takenIff_of_compare ls flags fun _ => ?_,
    takenIff_of_compare cc flags fun _ => ?_, takenIff_of_compare cs flags fun _ => ?_,
    takenIff_of_compare ne flags fun _ => ?_, takenIff_of_compare eq flags fun _ => ?_,
    takenIff_of_compare ge flags fun _ => ?_, takenIff_of_compare lt flags fun _ => ?_,
    takenIff_of_compare gt flags fun _ => ?_, takenIff_of_compare le flags fun _ => ?_⟩
  · simp [unsigned]; omega
  · simp [unsigned]; omega
  · simp
  · simp
  · simp
  · simp
  · simp [agree]
  · simp
  · simp [agree, signed]; omega
  · simp [signed]; omega

/-- Settles O60: the rows of each handler, each state's bus read off; after the one-byte instructions and the jumps,
which keep memory, the next fetch at the effect's next address. -/
theorem oneByteBranchStoreJumpBusTraces : Obligations.OneByteBranchStoreJumpBusTraces := by
  intro s hb p h mode dir idx ext v
  have asNat {m : BitVec 2} (hm : mode = m) : ((streamByte s 0).extractLsb' 4 2).toNat = m.toNat :=
    congrArg BitVec.toNat hm
  have trace {h' : Handler} {m : BitVec 2} (hd : h = h') (hm : mode = m) := busTrace_of_boundary hb hd (asNat hm)
  have jumpTrace {m : BitVec 2} (hd : h = .jump) (hm : mode = m) :=
    busTrace_next_of_boundary hb hd (asNat hm) (Handler.action_jump (asNat hm)) fun _ => rfl
  refine ⟨?_, fun hd => (trace hd rfl).trans ?_, fun hd hm => (trace hd hm).trans ?_,
    fun hd hm => (trace hd hm).trans ?_, fun hd hm => (trace hd hm).trans ?_,
    fun hd hm => (jumpTrace hd hm).trans ?_, fun hd hm => (jumpTrace hd hm).trans ?_⟩
  · rintro (hd | hd | hd | hd | hd | ⟨op, hd, hm | hm⟩)
    case inl | inr.inl | inr.inr.inl | inr.inr.inr.inl | inr.inr.inr.inr.inl =>
      exact busTrace_of_oneByte hb hd rfl rfl (fun _ => rfl) rfl fun _ => rfl
    all_goals
      exact busTrace_of_oneByte hb hd (asNat hm) (Handler.action_readModifyWrite (asNat hm) (by decide)) (fun _ => rfl)
        rfl fun _ => rfl
  · simp [Handler.rows, State.fetched, commit_immediate, commit_branchCycle2, BitVec.add_assoc, p]
  · simp [Handler.rows, State.fetched, commit_direct, eaDirect_eq, State.acc_instrAcc, p, dir, v]
  · simp [Handler.rows, State.fetched, commit_indexed, commit_indexedCycle3, eaIndexed_eq, State.acc_instrAcc,
      BitVec.add_assoc, p, idx, v]
  · simp [Handler.rows, State.fetched, commit_extended, State.acc_instrAcc, BitVec.add_assoc, p, ext, v]
  · simp [Handler.rows, State.fetched, commit_indexed, eaIndexed_eq, Action.nextPc, MemOperand.ea, BitVec.add_assoc, p,
      idx]
  · simp [Handler.rows, State.fetched, Action.nextPc, MemOperand.ea, BitVec.add_assoc, p, ext]

/-- Settles O54: the decoded instruction is BRA, whose condition holds of all flags; the trace is that of O60. -/
theorem branchAlwaysToItselfLoops : Obligations.BranchAlwaysToItselfLoops := by
  intro s hb hin opcode
  refine ⟨step_bra_of_boundary hb hin opcode (branchTarget_eq ..), fun hpc hrr => ?_⟩
  have itself : branchTarget s.pc (streamByte s 1) = 0x1234 := by
    rw [hpc, hrr]
    decide
  obtain ⟨-, -, ha, -⟩ := s.atBoundary_iff.mp hb
  obtain ⟨ended, periods⟩ := step_bra_of_boundary hb hin opcode itself
  obtain ⟨-, branch, -⟩ := oneByteBranchStoreJumpBusTraces s hb
  have trace := branch (by rw [opcode]; rfl)
  have same : ({ s with pc := 0x1234, addr := 0x1234, tmp8 := streamByte s 1, tmp16 := 0x1234, instr := 0x20 } : State) =
      { s with tmp8 := 0xFE, tmp16 := 0x1234, instr := 0x20 } := by
    simp [hpc, ha, hrr]
  rw [hpc] at trace
  exact ⟨ended.trans (congrArg _ same), periods.trans same, trace⟩

end Sys2Proof.Proofs
end

section
/-! The 45_store family. The whole next state of a store is said once (`exec_storeInstr`); O46 is read off it. For O55 the
bus decides what is reported: each write (`reportedWrites_eq`), and for the handlers that discard no read each read after
the fetch (`reportedReads_of_boundary`); the lists are then read off the trace of O60. -/

namespace Sys2Proof.Machine

open Sys2Proof.Claims

/-! ## The whole next state of a store (45 R292) -/

theorem length_eq_storeLength (o : StoreOperand) : o.length = storeLength o := by cases o <;> rfl

/-- A store: the byte, the flags of LD on it, and the scratch register and latch it passes through. -/
theorem exec_storeInstr (acc : Acc) (o : StoreOperand) (s : State) :
    exec (acc.storeInstr o) s = .next (endedAt
      { s with mem := s.mem.write (o.ea s) (s.acc acc), ccs := flagsOf s.ccs (s.acc acc) false (s.ccs.getLsbD 0),
               tmp16 := o.ea s, dout := s.acc acc } (s.pc + storeLength o)) := by
  have flags : storeFlags machineAlu acc s = flagsOf s.ccs (s.acc acc) false (s.ccs.getLsbD 0) :=
    congrArg AluOut.flags (aluLogic_eq ..)
  rw [exec_action, action_storeInstr, Action.effect, storeEffect, flags, length_eq_storeLength]
  rfl

/-- The effect of an indexed store opcode; bit 6 names the accumulator (45 R290). -/
theorem Handler.action_store_indexed {b0 b1 b2 : Byte} (hm : (b0.extractLsb' 4 2).toNat = 2) :
    Handler.store.action b0 b1 b2 = .store (if b0.getLsbD 6 then .B else .A) (.idx b1) := by
  rw [action, hm]
  rfl

/-- After the six periods of an indexed store opcode it has had its effect (45 R291). -/
theorem clocks_of_store_indexed {s : State} (hb : s.atBoundary = true) (hd : dispatch (streamByte s 0) = .store)
    (hm : ((streamByte s 0).extractLsb' 4 2).toNat = 2) :
    clocks 6 s = (Action.store (if (streamByte s 0).getLsbD 6 then .B else .A) (.idx (streamByte s 1))).effect
      (s.setInstr (streamByte s 0)) := by
  have ended := clocks_endCycle_of_boundary hb hd hm
  rwa [Handler.action_store_indexed hm] at ended

/-! ## What the bus says of the reports (20_memory R79) -/

/-- The address and the byte of a valid read on the bus. -/
def BusPeriod.dataRead (b : BusPeriod) : Option (Word × Byte) := if b.rw then b.data.map (b.addr, ·) else none

/-- The address and the byte of a valid write on the bus. -/
def BusPeriod.dataWritten (b : BusPeriod) : Option (Word × Byte) := if b.rw then none else b.data.map (b.addr, ·)

/-- A period reports the write that its bus carries. -/
theorem State.reportedWrite_eq (s : State) : s.reportedWrite = s.bus.dataWritten := by
  unfold State.reportedWrite BusPeriod.dataWritten State.bus
  cases s.rw <;> cases s.vma <;> rfl

/-- A period after the fetch reports the read that its bus carries, unless the core discards it. -/
theorem State.reportedRead_eq {s : State} (hr : s.rst = 3) (hc : s.cycle ≠ 0) (kept : s.discardsRead = false) :
    s.reportedRead = s.bus.dataRead := by
  unfold State.reportedRead BusPeriod.dataRead State.bus
  rw [hr, bne_iff_ne.mpr hc, kept]
  cases s.rw <;> cases s.vma <;> rfl

/-- The handlers that use every byte they read (20_memory R72). -/
theorem State.discardsRead_eq_false_of_store_or_jump {s : State}
    (h : dispatch s.instr = .store ∨ dispatch s.instr = .jump) : s.discardsRead = false := by
  obtain h | h := h <;> rw [State.discardsRead, h]

/-- The writes that are reported are those on the bus. -/
theorem reportedWrites_eq (n : Nat) (s : State) :
    reportedWrites n s = (busTrace n s).filterMap BusPeriod.dataWritten := by
  rw [reportedWrites, busTrace, List.filterMap_map]
  exact List.filterMap_congr fun t _ => t.reportedWrite_eq

theorem exists_clocks_of_mem_periodStates {n : Nat} {s t : State} (h : t ∈ periodStates n s) :
    ∃ j < n, t = clocks j s := by
  obtain ⟨j, lt, rfl⟩ := List.mem_iff_getElem.mp h
  exact ⟨j, length_periodStates n s ▸ lt, getElem_periodStates lt⟩

section Periods

variable {s : State} {h : Handler} {m : Nat} (hb : s.atBoundary = true) (hd : dispatch (streamByte s 0) = h)
  (hm : ((streamByte s 0).extractLsb' 4 2).toNat = m)
include hb hd hm

/-- The periods after the fetch are those of the handler's cycles (40 R120). -/
theorem cycle_ne_zero_of_boundary {j : Nat} (lt : j < h.endCycle m) : (clocks (j + 1) s).cycle ≠ 0 := by
  have mode := hasMode_of_dispatch hd hm
  have length := mode.length_rows
  have := h.endCycle_le m
  obtain ⟨hr, -⟩ := s.atBoundary_iff.mp hb
  rw [streamByte_zero] at hd hm
  obtain ⟨-, count⟩ := mode.does_rows.clocks (s := s.fetched) one_ne_zero (by omega) hr hd hm rfl
  have cycle := count j (by omega)
  rw [clocks_succ, clock_eq_fetched hb]
  intro zero
  rw [zero, Nat.add_comm] at cycle
  cases cycle

/-- In the periods after the fetch the sequencer is at rest and the latch holds the opcode (10_state R25, 70 R364). -/
theorem rst_and_instr_of_boundary {j : Nat} (lt : j < h.endCycle m) :
    (clocks (j + 1) s).rst = 3 ∧ (clocks (j + 1) s).instr = streamByte s 0 := by
  induction j with
  | zero =>
    obtain ⟨hr, -⟩ := s.atBoundary_iff.mp hb
    rw [clocks_succ, clock_eq_fetched hb, streamByte_zero]
    exact ⟨hr, rfl⟩
  | succ j ih =>
    obtain ⟨rst, instr⟩ := ih (by omega)
    have hc := cycle_ne_zero_of_boundary hb hd hm (j := j) (by omega)
    rw [clocks_add (j + 1) 1]
    exact ⟨clock_rst rst, (clock_instr rst hc).trans instr⟩

/-- The reads that a store or a jump reports are those on the bus after the fetch. -/
theorem reportedReads_of_boundary (keeps : h = .store ∨ h = .jump) :
    reportedReads (h.endCycle m + 1) s = (busTrace (h.endCycle m + 1) s).tail.filterMap BusPeriod.dataRead := by
  obtain ⟨-, hc, -⟩ := s.atBoundary_iff.mp hb
  have fetch : s.reportedRead = none := reportedRead_of_cycle_zero hc
  rw [reportedReads, busTrace, periodStates, List.filterMap_cons_none fetch, List.map_cons, List.tail_cons,
    List.filterMap_map]
  refine List.filterMap_congr fun t mem => ?_
  obtain ⟨j, lt, rfl⟩ := exists_clocks_of_mem_periodStates mem
  obtain ⟨rst, instr⟩ := rst_and_instr_of_boundary hb hd hm lt
  exact State.reportedRead_eq rst (cycle_ne_zero_of_boundary hb hd hm lt)
    (State.discardsRead_eq_false_of_store_or_jump (by rwa [← clocks_succ, instr, hd]))

end Periods

end Sys2Proof.Machine

namespace Sys2Proof.Proofs

open Sys2Proof.Machine Sys2Proof.Claims

/-- Settles O46, from the whole next state of a store and the laws of a memory write. -/
theorem storeWritesAccumulatorAndSetsFlags : Obligations.StoreWritesAccumulatorAndSetsFlags := by
  intro o s mem stores
  have store (acc : Acc) : stores (acc.storeInstr o) (s.acc acc) :=
    ⟨_, exec_storeInstr acc o s, rfl, Memory.read_write_same mem _ _, fun _ ne => Memory.read_write_other mem _ ne⟩
  exact ⟨store .A, store .B⟩

/-- Settles O55: the trace is that of O60, from which the reports are read off; the six periods complete the effect. -/
theorem indexedStoreReadsOnceWritesOnce : Obligations.IndexedStoreReadsOnceWritesOnce := by
  intro s acc hb opcode ea v
  have fields : dispatch (streamByte s 0) = .store ∧ (streamByte s 0).extractLsb' 4 2 = 2 ∧
      (if (streamByte s 0).getLsbD 6 then Acc.B else .A) = acc := by
    rw [opcode]
    cases acc <;> decide
  obtain ⟨hd, hm, named⟩ := fields
  have mode : ((streamByte s 0).extractLsb' 4 2).toNat = 2 := congrArg BitVec.toNat hm
  obtain ⟨hr, -⟩ := s.atBoundary_iff.mp hb
  obtain ⟨-, -, -, indexedStore, -⟩ := oneByteBranchStoreJumpBusTraces s hb
  have value : (if (streamByte s 0).getLsbD 6 then s.b else s.a) = v :=
    (State.acc_instrAcc (s.setInstr (streamByte s 0))).symm.trans (congrArg s.acc named)
  have trace : busTrace 6 s = [busRead s s.pc, busRead s (s.pc + 1), busDead (s.pc + 2), busDead (s.pc + 2),
      busDead ea, busWrite ea v] := value ▸ indexedStore hd hm
  have reads : reportedReads 6 s = (busTrace 6 s).tail.filterMap BusPeriod.dataRead :=
    reportedReads_of_boundary hb hd mode (.inl rfl)
  have ended := clocks_of_store_indexed hb hd mode
  rw [named] at ended
  have ccs : (clocks 6 s).ccs = (aluLogic s.ccs v).flags := by
    rw [ended, Action.effect_ccs]
    cases acc <;> rfl
  obtain ⟨z, n, overflow⟩ := flags_aluLogic s.ccs v
  refine ⟨by rw [reads, trace]; rfl, by rw [reportedWrites_eq, trace]; rfl, trace, ?_, ?_, ccs ▸ n, ccs ▸ z,
    ccs ▸ overflow, ?_⟩
  · rw [ended]
    exact Action.atBoundary_effect _ hr
  · rw [ended, Action.effect_pc]
    rfl
  · rw [ended, Action.effect_acc]
    cases acc <;> rfl

end Sys2Proof.Proofs
end

section
/-! The 46_jump family. The whole next state of a jump is said once (`effect_jump`); O45 is read off it. The three
periods of the extended jump of O56 end in the same effect, and what they report is read off the bus trace. -/

namespace Sys2Proof.Machine

open Sys2Proof.Claims

/-! ## The whole next state of a jump (46 R302) -/

@[simp] theorem action_jmp (o : MemOperand) : (Instr.jmp o).action = .jump o := by cases o <;> rfl

theorem effect_jump (o : MemOperand) (s : State) :
    (Action.jump o).effect s = endedAt { s with tmp16 := o.ea s } (o.ea s) := rfl

/-! ## The periods of an extended jump (46 R301) -/

/-- The big-endian word of the operand bytes, in the arithmetic of numbers. -/
theorem joinBytes_eq (hi lo : Byte) : joinBytes hi lo = BitVec.ofNat 16 (256 * hi.toNat + lo.toNat) := by
  rw [joinBytes, Nat.mul_comm]

section Extended

variable {s : State} (hb : s.atBoundary = true) (hd : dispatch (streamByte s 0) = .jump)
  (hm : ((streamByte s 0).extractLsb' 4 2).toNat = 3)
include hb hd hm

/-- Each of the three periods is a read: the opcode and the two operand bytes. -/
theorem busTrace_of_jump_extended :
    busTrace 3 s = [busRead s s.pc, busRead s (s.pc + 1), busRead s (s.pc + 2)] := by
  refine (busTrace_of_boundary hb hd hm).trans ?_
  simp [Handler.rows, State.fetched, BitVec.add_assoc]

/-- After its three periods an extended jump has had its effect, which from a boundary changes four registers. -/
theorem clocks_of_jump_extended :
    let target := joinBytes (streamByte s 1) (streamByte s 2)
    clocks 3 s = { s with pc := target, addr := target, instr := streamByte s 0, tmp16 := target } := by
  intro target
  have ended := clocks_endCycle_of_boundary hb hd hm
  rw [Handler.action_jump hm, effect_jump] at ended
  exact ended.trans (State.endInstr_of_boundary (s := (s.setInstr (streamByte s 0)).setTmp16 target) hb target)

end Extended

end Sys2Proof.Machine

namespace Sys2Proof.Proofs

open Sys2Proof.Machine Sys2Proof.Claims

/-- Settles O45: the effect of a jump in either mode. -/
theorem jumpGoesToEffectiveAddress : Obligations.JumpGoesToEffectiveAddress := by
  intro o s
  rw [exec_action, action_jmp, effect_jump]

/-- Settles O56: the reports are read off the bus trace; the three periods complete the effect of the jump. -/
theorem extendedJumpReadsTwoBytes : Obligations.ExtendedJumpReadsTwoBytes := by
  intro s hb opcode target
  have hd : dispatch (streamByte s 0) = .jump := by rw [opcode]; rfl
  have hm : ((streamByte s 0).extractLsb' 4 2).toNat = 3 := by rw [opcode]; rfl
  have trace := busTrace_of_jump_extended hb hd hm
  have reads : reportedReads 3 s = (busTrace 3 s).tail.filterMap BusPeriod.dataRead :=
    reportedReads_of_boundary hb hd hm (.inr rfl)
  have ended := clocks_of_jump_extended hb hd hm
  rw [joinBytes_eq, opcode] at ended
  exact ⟨by rw [reads, trace]; rfl, by rw [reportedWrites_eq, trace]; rfl, ended⟩

end Sys2Proof.Proofs
end

section
/-! The 47_misc family. An opcode without an effect of its own, NOP or unrecognised, is said once from a boundary: its
two periods (`clocks_of_skip`) and its trace (`busTrace_of_skip`); O49 is one of them, O48 an induction over many. The
flags of the others are those of a set or clear function (`flags_aluSetFlag`), and INX and DEX are told apart by bit 0 of
the opcode. -/

namespace Sys2Proof.Machine

open Sys2Proof.Claims

/-! ## Opcodes without an effect of their own (47 R311, R330) -/

section Skip

variable {s : State} {h : Handler} (hb : s.atBoundary = true) (hd : dispatch (streamByte s 0) = h)
  (skips : h = .noOperation ∨ h = .unrecognised)
include hb hd skips

/-- The two periods move the program counter one byte on and latch the opcode. -/
theorem clocks_of_skip : clocks 2 s = { s with pc := s.pc + 1, addr := s.pc + 1, instr := streamByte s 0 } := by
  have ended : clocks 2 s = (s.setInstr (streamByte s 0)).endInstr (s.pc + 1) := by
    obtain rfl | rfl := skips <;> exact clocks_endCycle_of_boundary hb hd rfl
  exact ended.trans (State.endInstr_of_boundary (s := s.setInstr (streamByte s 0)) hb _)

/-- The fetch, and the read of the next byte that cycle 1 discards. -/
theorem busTrace_of_skip : busTrace 2 s = [busRead s s.pc, busRead s (s.pc + 1)] := by
  obtain rfl | rfl := skips <;> exact busTrace_of_boundary hb hd rfl

end Skip

theorem add_one_add_ofNat (p : Word) (k : Nat) : p + 1 + BitVec.ofNat 16 k = p + BitVec.ofNat 16 (k + 1) := by
  rw [Nat.add_comm, BitVec.ofNat_add, BitVec.add_assoc]
  rfl

theorem streamByte_succ (s : State) (k : Nat) (op : Byte) :
    streamByte { s with pc := s.pc + 1, addr := s.pc + 1, instr := op } k = streamByte s (k + 1) :=
  congrArg s.mem.read (add_one_add_ofNat ..)

/-- NOPs in a row move the program counter past them, modulo 2^16 (47 R311). -/
theorem clocks_of_nops {n : Nat} {s : State} (hb : s.atBoundary = true) (nops : ∀ k < n, streamByte s k = 0x01) :
    clocks (2 * n) s =
      { s with pc := s.pc + BitVec.ofNat 16 n, addr := s.pc + BitVec.ofNat 16 n,
               instr := if n = 0 then s.instr else 0x01 } := by
  induction n generalizing s with
  | zero =>
    obtain ⟨-, -, ha, -⟩ := s.atBoundary_iff.mp hb
    rw [BitVec.add_zero, if_pos rfl]
    exact congrArg (fun a : Word => ({ s with addr := a } : State)) ha
  | succ n ih =>
    have opcode : streamByte s 0 = 0x01 := nops 0 n.succ_pos
    let t : State := { s with pc := s.pc + 1, addr := s.pc + 1, instr := 0x01 }
    have first : clocks 2 s = t := by
      rw [clocks_of_skip hb (by rw [opcode]; rfl) (.inl rfl), opcode]
    obtain ⟨hr, hc, -, hw, hv⟩ := s.atBoundary_iff.mp hb
    have others : clocks (2 * n) t = _ :=
      ih (t.atBoundary_iff.mpr ⟨hr, hc, rfl, hw, hv⟩) fun k lt => by
        rw [streamByte_succ]
        exact nops (k + 1) (Nat.succ_lt_succ lt)
    rw [Nat.mul_succ, Nat.add_comm, clocks_add, first, others, add_one_add_ofNat, if_neg n.succ_ne_zero, ite_self]

/-! ## The flags of the one-byte instructions (41 R188 to R190; flag positions: log 11) -/

/-- The reserved bits as numbers: bits 7:6 read 1, bits 5:0 are kept. -/
theorem withReservedBits_eq (b : Byte) : withReservedBits b = BitVec.ofNat 8 (192 + b.toNat % 64) := by
  have low : b.toNat % 64 < 2 ^ 6 := Nat.mod_lt _ (by decide)
  refine BitVec.eq_of_getLsbD_eq fun j hj => ?_
  rw [BitVec.getLsbD_ofNat, decide_eq_true hj, Bool.true_and, Nat.testBit_two_pow_mul_add 3 low]
  by_cases six : j < 6
  · rw [if_pos six, getLsbD_withReservedBits b six, Nat.testBit_mod_two_pow _ 6, decide_eq_true six, Bool.true_and]
    rfl
  · obtain rfl | rfl : j = 6 ∨ j = 7 := by omega
    all_goals simp [withReservedBits, Nat.testBit]

theorem flags_aluSetFlag (ccs : Byte) (i z v c : Bool) :
    (aluSetFlag ccs i z v c).flags = flagVector (ccs.getLsbD 5) i (ccs.getLsbD 3) z v c :=
  mkFlags_eq_flagVector ..

/-- The whole next state of a flag instruction, from the flags that its function answers (47 R314). -/
theorem exec_of_flag {i : Instr} {func : AluFunc} {s : State} {ccs : Byte} (action : i.action = .flag func)
    (flags : (machineAlu func 0x00 0x00 s.ccs).flags = ccs) :
    exec i s = .next (endedAt { s with ccs := ccs } (s.pc + 1)) := by
  rw [exec_action, action, ← flags]
  rfl

/-! ## INX and DEX (47 R321 to R323) -/

/-- SEZ for a zero index value and CLZ for any other: `Z` says whether it is zero. -/
theorem flags_sez_or_clz (x : Word) (ccs : Byte) :
    (machineAlu (if x = 0x0000 then .sez else .clz) 0x00 0x00 ccs).flags =
      flagVector (ccs.getLsbD 5) (ccs.getLsbD 4) (ccs.getLsbD 3) (decide (x.toNat = 0)) (ccs.getLsbD 1)
        (ccs.getLsbD 0) := by
  have zero : x.toNat = 0 ↔ x = 0x0000 := BitVec.toNat_inj (y := 0x0000)
  by_cases hx : x = 0x0000
  · rw [if_pos hx, decide_eq_true (zero.mpr hx)]
    exact flags_aluSetFlag ..
  · rw [if_neg hx, decide_eq_false (mt zero.mp hx)]
    exact flags_aluSetFlag ..

/-- The whole next state of an index step to `x` (47 R321). -/
theorem exec_of_index {i : Instr} {up : Bool} {s : State} {x : Word} (action : i.action = .index up)
    (steps : (if up then s.x + 1 else s.x - 1) = x) :
    exec i s = .next (endedAt
      { s with x := x
               ccs := flagVector (s.ccs.getLsbD 5) (s.ccs.getLsbD 4) (s.ccs.getLsbD 3) (decide (x.toNat = 0))
                 (s.ccs.getLsbD 1) (s.ccs.getLsbD 0) } (s.pc + 1)) := by
  rw [exec_action, action, Action.effect, steps, ← flags_sez_or_clz]
  rfl

/-- Bit 0 of the opcode tells DEX from INX (47 R321). -/
theorem fields_of_index_opcode {op : Byte} (h : op = 0x08 ∨ op = 0x09) :
    dispatch op = .indexStep ∧ (op.getLsbD 0 = true ↔ ¬op = 0x08) := by
  obtain rfl | rfl := h <;> decide

end Sys2Proof.Machine

namespace Sys2Proof.Proofs

open Sys2Proof.Machine Sys2Proof.Claims

/-- Settles O48, by induction on the number of NOPs. -/
theorem nopsChangeOnlyTheProgramCounter : Obligations.NopsChangeOnlyTheProgramCounter := by
  refine ⟨exec_action .nop, fun n s hb nops => ⟨clocks_of_nops hb nops, fun pos => ?_⟩⟩
  exact busTrace_of_skip hb (by rw [nops 0 pos]; rfl) (.inl rfl)

/-- Settles O49: a listed byte decodes as unrecognised, and its step is the two periods of the default handler. -/
theorem unrecognisedOpcodeIsSkipped : Obligations.UnrecognisedOpcodeIsSkipped := by
  refine ⟨fun op => exec_action (.unrecognised op), fun s hb hin listed => ?_⟩
  intro t
  have hd := (dispatch_eq_unrecognised_iff _).mpr listed
  have periods : clocks 2 s = t := clocks_of_skip hb hd (.inr rfl)
  have instr : s.nextInstr = .unrecognised (streamByte s 0) := by
    rw [streamByte_zero] at listed ⊢
    exact (decodeTriple_eq_unrecognised_iff ..).mpr listed
  obtain ⟨ended, -⟩ := stepIsTheClockPeriodsOfTheInstruction s hb hin
  rw [instr] at ended
  exact ⟨ended.trans (congrArg _ periods), periods, busTrace_of_skip hb hd (.inr rfl)⟩

/-- Settles O52: the steps as numbers, and the flags of SEZ or CLZ. -/
theorem indexStepSetsOnlyZero : Obligations.IndexStepSetsOnlyZero := by
  intro s f steps
  have up : s.x + 1 = BitVec.ofNat 16 (s.x.toNat + 1) := by bv_omega
  have down : s.x - 1 = BitVec.ofNat 16 (s.x.toNat + 65535) := by bv_omega
  exact ⟨exec_of_index rfl up, exec_of_index rfl down⟩

/-- Settles O59: the rows of the index handler, and the effect after them. -/
theorem indexStepShowsOldThenNewIndex : Obligations.IndexStepShowsOldThenNewIndex := by
  intro s hb opcode x'
  obtain ⟨hr, -⟩ := s.atBoundary_iff.mp hb
  obtain ⟨hd, down⟩ := fields_of_index_opcode opcode
  have new : (if (streamByte s 0).getLsbD 0 then s.x - 1 else s.x + 1) = x' := by simp only [down, ite_not, x']
  have ended : clocks 4 s = (Action.index (!(streamByte s 0).getLsbD 0)).effect (s.setInstr (streamByte s 0)) :=
    clocks_endCycle_of_boundary hb hd rfl
  refine ⟨(busTrace_of_boundary hb hd rfl).trans ?_, ?_, ?_⟩
  · rw [← new]
    simp [Handler.rows, State.fetched, commit_indexCycle1, commit_indexCycle2]
  · rw [ended, Action.effect_x, ← new]
    cases (streamByte s 0).getLsbD 0 <;> rfl
  · rw [ended]
    exact Action.atBoundary_effect _ hr

/-- Settles O50: both functions answer the six flags with the reserved bits. -/
theorem transfersMoveSixFlags : Obligations.TransfersMoveSixFlags := by
  intro s
  rw [← withReservedBits_eq, ← withReservedBits_eq]
  exact ⟨exec_action .tap s, exec_action .tpa s⟩

/-- Settles O51: each of the six is a set or clear function that keeps the other flags. -/
theorem flagInstructionsChangeOneFlag : Obligations.FlagInstructionsChangeOneFlag := by
  intro s f only
  refine ⟨?_, ?_, ?_, ?_, ?_, ?_⟩ <;> exact exec_of_flag rfl (flags_aluSetFlag ..)

end Sys2Proof.Proofs
end

section
/-! The 60_exceptions family. O13 is read off the three cases of a step. For O24 the reference ALU's answer under an
inverted `I` is said once (`machineAlu_invertMask`): it is the same, or `I` is inverted in its flags and nothing else
changes. -/

namespace Sys2Proof.Machine

/-! ## The flag vector and the ALU under an inverted mask (10_state R31; flag positions: log 11) -/

/-- A flag vector with `I` inverted. -/
def invertMask (ccs : Byte) : Byte := ccs ^^^ 0x10

section Flags

variable (ccs : Byte)

@[simp] theorem flagC_invertMask : flagC (invertMask ccs) = flagC ccs := by simp [flagC, invertMask]
@[simp] theorem flagV_invertMask : flagV (invertMask ccs) = flagV ccs := by simp [flagV, invertMask]
@[simp] theorem flagZ_invertMask : flagZ (invertMask ccs) = flagZ ccs := by simp [flagZ, invertMask]
@[simp] theorem flagN_invertMask : flagN (invertMask ccs) = flagN ccs := by simp [flagN, invertMask]
@[simp] theorem flagI_invertMask : flagI (invertMask ccs) = !flagI ccs := by simp [flagI, invertMask]
@[simp] theorem flagH_invertMask : flagH (invertMask ccs) = flagH ccs := by simp [flagH, invertMask]

end Flags

theorem mkFlags_not_mask (h i n z v c : Bool) : mkFlags h (!i) n z v c = invertMask (mkFlags h i n z v c) := by
  revert h i n z v c; decide

theorem resultFlags_invertMask (ccs r : Byte) (v c : Bool) :
    resultFlags (invertMask ccs) r v c = invertMask (resultFlags ccs r v c) := by
  simp only [resultFlags, flagH_invertMask, flagI_invertMask, mkFlags_not_mask]

theorem withReservedBits_invertMask (ccs : Byte) :
    withReservedBits (invertMask ccs) = invertMask (withReservedBits ccs) := by
  refine BitVec.eq_of_getLsbD_eq fun j hj => ?_
  interval_cases j <;> simp [withReservedBits, invertMask]

/-- The condition of a branch does not look at the mask (44 R261). -/
theorem branchTaken_invertMask (sel : BitVec 3) (inv : Bool) (ccs : Byte) :
    branchTaken sel inv (invertMask ccs) = branchTaken sel inv ccs := by
  rw [branchTaken_eq_mkFlags, branchTaken_eq_mkFlags sel inv ccs]
  simp

/-- An ALU's answer with `I` inverted in its flags. -/
def AluOut.invertMask (out : AluOut) : AluOut := { out with flags := Machine.invertMask out.flags }

theorem aluSetFlag_invertMask (ccs : Byte) (i z v c : Bool) :
    aluSetFlag (invertMask ccs) i z v c = aluSetFlag ccs i z v c := by
  simp only [aluSetFlag, flagH_invertMask, flagN_invertMask]

theorem aluSetFlag_not_mask (ccs : Byte) (i z v c : Bool) :
    aluSetFlag ccs (!i) z v c = (aluSetFlag ccs i z v c).invertMask :=
  congrArg (AluOut.mk 0) (mkFlags_not_mask ..)

/-- No function but TPA has the mask in its result: under an inverted mask the answer is the same, or it is inverted in
the flags only. -/
theorem machineAlu_invertMask {func : AluFunc} (hf : func ≠ .tpa) (x y ccs : Byte) :
    machineAlu func x y (invertMask ccs) = machineAlu func x y ccs ∨
      machineAlu func x y (invertMask ccs) = (machineAlu func x y ccs).invertMask := by
  cases func with
  | tpa => exact absurd rfl hf
  | tap => exact .inl rfl
  | cli | sei => exact .inl (by simp [machineAlu, referenceAlu, aluSetFlag_invertMask])
  | none => exact .inr rfl
  | clv | sev | clc | sec | clz | sez =>
    exact .inr (by simp [machineAlu, referenceAlu, aluSetFlag_invertMask, aluSetFlag_not_mask])
  | add | adc =>
    exact .inr (by simp [machineAlu, referenceAlu, aluAdd, mkFlags_not_mask, AluOut.invertMask])
  | _ =>
    exact .inr (by simp [machineAlu, referenceAlu, aluSub, aluLogic, aluShift, resultFlags_invertMask, AluOut.invertMask])

theorem result_invertMask {func : AluFunc} (hf : func ≠ .tpa) (x y ccs : Byte) :
    (machineAlu func x y (invertMask ccs)).result = (machineAlu func x y ccs).result := by
  obtain h | h := machineAlu_invertMask hf x y ccs <;> rw [h]
  rfl

theorem flags_invertMask (func : AluFunc) (x y ccs : Byte) :
    (machineAlu func x y (invertMask ccs)).flags = (machineAlu func x y ccs).flags ∨
      (machineAlu func x y (invertMask ccs)).flags = invertMask (machineAlu func x y ccs).flags := by
  by_cases hf : func = .tpa
  · rw [hf]; exact .inr rfl
  · exact (machineAlu_invertMask hf x y ccs).imp (congrArg AluOut.flags) (congrArg AluOut.flags)

theorem RmwOp.func_ne_tpa (op : RmwOp) : op.func ≠ .tpa := by cases op <;> decide

theorem ReadOp.func_ne_tpa (op : ReadOp) : op.func ≠ .tpa := by cases op <;> decide

/-! ## An instruction under an inverted mask (60 R343) -/

/-- `s` with `I` inverted. -/
def State.invertMask (s : State) : State := s.setCcs (Machine.invertMask s.ccs)

@[simp] theorem State.invertMask_acc (s : State) (acc : Acc) : s.invertMask.acc acc = s.acc acc := by cases acc <;> rfl

@[simp] theorem State.invertMask_ccs (s : State) : s.invertMask.ccs = Machine.invertMask s.ccs := rfl

@[simp] theorem State.invertMask_mem (s : State) : s.invertMask.mem = s.mem := rfl

/-- Nothing but the flags sees the mask, TPA apart. -/
theorem Action.effect_invertMask_eq_setCcs {k : Action} (hk : k ≠ .tpa) (s : State) :
    k.effect s.invertMask = (k.effect s).setCcs (k.nextCcs s.invertMask) := by
  cases k with
  | tpa => exact absurd rfl hk
  | skip | tap | flag | index => rfl
  | branch sel inv rr => simp only [effect, branchEffect, State.invertMask_ccs, branchTaken_invertMask]; rfl
  | jump o => cases o <;> rfl
  | store acc o => cases o <;> cases acc <;> rfl
  | rmwAcc op acc =>
    simp only [effect, rmwAccEffect, rmwAccFire, RmwOp.compute, State.invertMask_acc, State.invertMask_ccs,
      result_invertMask op.func_ne_tpa, nextCcs]
    cases acc <;> split <;> rfl
  | rmwMem op o =>
    have ea : o.ea s.invertMask = o.ea s := by cases o <;> rfl
    simp only [effect, rmwMemEffect, RmwOp.compute, ea, State.invertMask_mem, State.invertMask_ccs,
      result_invertMask op.func_ne_tpa, nextCcs]
    rfl
  | read op acc o =>
    have value : o.value s.invertMask = o.value s := by cases o <;> rfl
    simp only [effect, readEffect, readFire, latch_acc, latch_ccs, value, State.invertMask_acc, State.invertMask_ccs,
      result_invertMask op.func_ne_tpa, nextCcs]
    cases o <;> cases acc <;> split <;> rfl

/-- The flags after an instruction are the same, or differ in the mask only. -/
theorem Action.nextCcs_invertMask (k : Action) (s : State) :
    k.nextCcs s.invertMask = k.nextCcs s ∨ k.nextCcs s.invertMask = invertMask (k.nextCcs s) := by
  cases k with
  | skip | branch | jump => exact .inr rfl
  | tap | tpa | flag | index => exact flags_invertMask ..
  | store acc o =>
    rw [nextCcs, State.invertMask_acc]
    exact flags_invertMask ..
  | rmwAcc op acc =>
    rw [nextCcs, State.invertMask_acc]
    exact flags_invertMask ..
  | rmwMem op o => cases o <;> exact flags_invertMask ..
  | read op acc o =>
    rw [nextCcs, State.invertMask_acc]
    cases o <;> exact flags_invertMask ..

/-- An instruction other than TPA leaves the same state, or one that differs in the mask only. -/
theorem Action.effect_invertMask {k : Action} (hk : k ≠ .tpa) (s : State) :
    k.effect s.invertMask = k.effect s ∨ k.effect s.invertMask = (k.effect s).invertMask := by
  rw [effect_invertMask_eq_setCcs hk]
  obtain h | h := k.nextCcs_invertMask s <;> rw [h, ← effect_ccs]
  · exact .inl rfl
  · exact .inr rfl

/-- TPA copies the mask to `A` (47 R313). -/
theorem Action.effect_tpa_invertMask (s : State) :
    tpa.effect s.invertMask = ((tpa.effect s).setAcc .A (Machine.invertMask (tpa.effect s).a)).invertMask :=
  congrArg (fun a => ((tpa.effect s).setAcc .A a).invertMask) (withReservedBits_invertMask s.ccs)

theorem action_ne_tpa {i : Instr} (hi : i ≠ .tpa) : i.action ≠ .tpa := by
  cases i with
  | tpa => exact absurd rfl hi
  | _ => nofun

end Sys2Proof.Machine

namespace Sys2Proof.Proofs

open Sys2Proof.Machine

/-- Settles O13: a clock period has a next state, and so has every instruction. -/
theorem everyStateHasSuccessor : Obligations.EveryStateHasSuccessor := by
  intro s
  obtain ⟨_, _, -, h⟩ | ⟨-, -, h⟩ | ⟨-, -, h⟩ := step_cases s
  · exact ⟨_, h⟩
  · exact ⟨_, h.trans (exec_action _ _)⟩
  · exact ⟨_, h⟩

/-- Settles O24: TPA copies the mask, and every other effect has it in the flags after or nowhere. -/
theorem interruptMaskMasksNothing : Obligations.InterruptMaskMasksNothing := by
  intro i s s'
  have same : s' = s.invertMask := rfl
  refine ⟨_, exec_action i s, ?_, fun hi => ?_⟩ <;> rw [same, exec_action]
  · rintro rfl
    exact congrArg _ (Action.effect_tpa_invertMask s)
  · exact (Action.effect_invertMask (action_ne_tpa hi) s).imp (congrArg _) (congrArg _)

end Sys2Proof.Proofs
end

section
/-! The 70_reset_and_hazards family. A period of the sequencer that reads changes no memory (`clock_sequencer_of_read`),
so O7 is its three rows, and O8 runs them one after the other. O10 counts the sequencer state (`toNat_rst_clocks`) and is at
the vector by O8. -/

namespace Sys2Proof.Machine

/-! ## The three rows of the reset sequencer (70 R361 to R363) -/

theorem sequencerPeriod_of_rst_zero {s : State} (hr : s.rst = 0) : sequencerPeriod s = sequencer0 s := by
  rw [sequencerPeriod, hr]; rfl

theorem sequencerPeriod_of_rst_one {s : State} (hr : s.rst = 1) : sequencerPeriod s = sequencer1 s := by
  rw [sequencerPeriod, hr]; rfl

theorem sequencerPeriod_of_rst_two {s : State} (hr : s.rst = 2) : sequencerPeriod s = sequencer2 s := by
  rw [sequencerPeriod, hr]; rfl

/-- The sequencer starts no write (70 R361 to R363). -/
@[simp] theorem sequencerPeriod_mem (s : State) : (sequencerPeriod s).mem = s.mem := by
  unfold sequencerPeriod
  split <;> rfl

/-- A sequencer period in which the core reads commits nothing. -/
theorem clock_sequencer_of_read {s : State} (hr : s.rst ≠ 3) (hw : s.rw = true) :
    clock false s = sequencerPeriod s := by
  rw [clock_sequencer hr, State.committedMem_of_read hw, ← sequencerPeriod_mem s]
  rfl

/-! ## The sequencer state counts to 3 and stays (70 R364) -/

theorem rst_cases (rst : BitVec 2) : rst = 0 ∨ rst = 1 ∨ rst = 2 ∨ rst = 3 := by
  revert rst; decide

theorem toNat_rst_clock (s : State) : (clock false s).rst.toNat = min (s.rst.toNat + 1) 3 := by
  obtain hr | hr | hr | hr := rst_cases s.rst
  · rw [clock_sequencer (by simp [hr]), sequencerPeriod_of_rst_zero hr, hr]; rfl
  · rw [clock_sequencer (by simp [hr]), sequencerPeriod_of_rst_one hr, hr]; rfl
  · rw [clock_sequencer (by simp [hr]), sequencerPeriod_of_rst_two hr, hr]; rfl
  · rw [clock_rst hr, hr]; rfl

theorem toNat_rst_clocks (n : Nat) (s : State) : (clocks n s).rst.toNat = min (s.rst.toNat + n) 3 := by
  induction n generalizing s with
  | zero => exact (Nat.min_eq_left (Nat.le_of_lt_succ s.rst.isLt)).symm
  | succ n ih => rw [clocks_succ, ih, toNat_rst_clock]; omega

/-- Only a reset edge takes the core out of normal operation (70 R364). -/
theorem step_keeps_normal_operation {s : State} (hr : s.rst = 3) (low : s.rstIn.head? ≠ some true) :
    ∃ t, step s = .next t ∧ t.rst = 3 := by
  obtain ⟨level, rest, hin, h⟩ | ⟨-, -, h⟩ | ⟨-, -, h⟩ := step_cases s
  · cases level with
    | true => simp [hin] at low
    | false => exact ⟨_, h, clock_rst hr⟩
  · exact ⟨_, h.trans (exec_action _ _), (Action.effect_rst _ _).trans hr⟩
  · exact ⟨_, h, clock_rst hr⟩

end Sys2Proof.Machine

namespace Sys2Proof.Proofs

open Sys2Proof.Machine Sys2Proof.Claims

/-- Settles O7: the three rows of the sequencer, in periods that read. -/
theorem sequencerReadsVectorThenEndsInstruction : Obligations.SequencerReadsVectorThenEndsInstruction := by
  intro s hw
  have row (hr : s.rst ≠ 3) : clock false s = sequencerPeriod s := clock_sequencer_of_read hr hw
  refine ⟨fun hr => ?_, fun hr => ?_, fun hr => ?_⟩ <;> rw [row (by simp [hr])]
  · exact sequencerPeriod_of_rst_zero hr
  · rw [sequencerPeriod_of_rst_one hr, sequencer1, State.din_of_read hw]
  · rw [sequencerPeriod_of_rst_two hr, sequencer2, State.din_of_read hw, joinBytes_eq]
    rfl

/-- Settles O8: the rows of the sequencer one after the other, and the bus of each period. -/
theorem resetPulseLoadsVector : Obligations.ResetPulseLoadsVector := by
  intro s hr hw hv pc
  have first : clock false s = sequencer0 s :=
    (clock_sequencer_of_read (by simp [hr]) hw).trans (sequencerPeriod_of_rst_zero hr)
  have second : clock false (sequencer0 s) = sequencer1 (sequencer0 s) := clock_sequencer_of_read nofun rfl
  have third : clock false (sequencer1 (sequencer0 s)) = sequencer2 (sequencer1 (sequencer0 s)) :=
    clock_sequencer_of_read nofun rfl
  have dead : s.bus = busDead s.addr := by simp [State.bus, busDead, hw, hv]
  have trace : busTrace 3 s = [busDead s.addr, busRead s 0xFFFE, busRead s 0xFFFF] := by
    simp only [busTrace, periodStates, first, second, List.map, dead]
    rfl
  refine ⟨by rw [trace]; rfl, congrArg ([·]) dead, ?_⟩
  simp only [clocks, first, second, third, sequencer2, joinBytes_eq]
  rfl

/-- Settles O10: the count of the sequencer state, and the state that O8 gives after a reset edge. -/
theorem resetStateThreeIsTerminal : Obligations.ResetStateThreeIsTerminal := by
  refine ⟨fun s n => ?_, fun s => ?_, fun s hr => ?_, fun s => step_keeps_normal_operation⟩
  · rw [toNat_rst_clocks, clock_reset]
    exact congrArg (min · 3) (Nat.zero_add n)
  · obtain ⟨-, -, loaded⟩ := resetPulseLoadsVector (clock true s) rfl rfl rfl
    rw [loaded]
    exact ⟨(State.atBoundary_iff _).mpr ⟨rfl, rfl, rfl, rfl, rfl⟩, rfl⟩
  · rw [clock_sequencer (by simp [hr]), sequencerPeriod_of_rst_two hr]
    exact ⟨(State.atBoundary_iff _).mpr ⟨rfl, rfl, rfl, rfl, rfl⟩, rfl⟩

end Sys2Proof.Proofs
end
